-- ==== Sys2Proof/Word.lean ====
section
/-! DEFINITION. The word types of the WEIRD64 codec block: the 32-bit register word, the byte, and the
5-bit digit (00_scope.md R8: register width 32 bits, digit width 5 bits, value width 64 bits). -/

namespace Sys2Proof

/-- A register of the window, and the data of one bus transaction (R7, R22): 32 bits. -/
abbrev Word := BitVec 32

/-- A symbol, a salt byte, an input byte (R86): 8 bits. -/
abbrev Byte := BitVec 8

/-- A true digit, a coded digit or a keystream value (R142, R165): 5 bits, 0 to 31. -/
abbrev Digit := BitVec 5

/-- The value ENCODE reads and DECODE produces, and the engine's wide temporaries (R21, R84): 64 bits. -/
abbrev Value := BitVec 64

/-- A host-operation word (R91): 41 bits. -/
abbrev Hop := BitVec 41

end Sys2Proof
end

