-- ==== Sys2Proof/Syntax.lean ====
section
/-! DEFINITION. The instructions of the block (30_encoding.md R93): the four command words and the two host
operations, one constructor for each row of spec/opcode_table.json; and the five results of decoding a
command word (R82). -/

namespace Sys2Proof

/-- The size of a bus transaction (R7): 1, 2 or 4 bytes. Only 4 is served (R61); only 4 can be written as a
host-operation word (R91). -/
inductive Size where
  | one
  | two
  | four
deriving DecidableEq, Repr

/-- The instructions (R93). A command constructor stands for the command the engine runs; the arrival of its
word at `CTRL` (acceptance, R105, or the drop of R103) is part of the meaning of `wr`. -/
inductive Instr where
  /-- `NOP`, command word `0x0000_0000` (R107). -/
  | nop
  /-- `ENCODE`, command word `0x0000_0001` (R160). -/
  | encode
  /-- `DECODE`, command word `0x0000_0002` (R180). -/
  | decode
  /-- `CONFIGURE`, command word `0x0000_0003` (R138). -/
  | configure
  /-- `RD`: a bus read of `size` bytes at byte offset `off` of the window (R100). -/
  | rd (off : BitVec 8) (size : Size)
  /-- `WR`: a bus write of `size` bytes of `data` at byte offset `off` of the window (R101). -/
  | wr (off : BitVec 8) (data : BitVec 32) (size : Size)
deriving DecidableEq, Repr

/-- The result of `DecodeCmd` (R82). -/
inductive CmdCode where
  | nop
  | encode
  | decode
  | configure
  | illegal
deriving DecidableEq, Repr

end Sys2Proof
end

