-- ==== Sys2Proof/WellFormed.lean ====
section
/-! DEFINITION. Which instructions have an encoding (30_encoding.md R91): a host operation is expressible as
a host-operation word exactly when its size is 4 bytes. An instruction that is not well formed still has its
meaning (the bus error of R61); it reaches the block as a bus transaction and not as an encoded word. -/

namespace Sys2Proof

/-- A size that a host-operation word can express (R91: "The size is always 4 bytes"). -/
def Size.hopSize : Size → Bool
  | .one => false
  | .two => false
  | .four => true

/-- An instruction that has an encoding. -/
def Instr.wellFormed : Instr → Bool
  | .nop => true
  | .encode => true
  | .decode => true
  | .configure => true
  | .rd _ size => size.hopSize
  | .wr _ _ size => size.hopSize

/-- `Instr.wellFormed` as a proposition. -/
abbrev Instr.WellFormed (i : Instr) : Prop := i.wellFormed = true

end Sys2Proof
end

