-- ==== Sys2Proof/Decode.lean ====
section
/-! DEFINITION. The decoder, total on any bytes and rejecting by name, and after it the encoder, both written
from 30_encoding.md R80 to R82 (the command word) and R91, R93 (the host-operation word). -/

namespace Sys2Proof

/-! ### The decoder -/

/-- Why some bytes are no instruction. -/
inductive DecodeReject where
  /-- A 32-bit word that `DecodeCmd` reads as ILLEGAL (R82, R89). No opcode-table row stands for it; written
  to `CTRL` it is accepted and completes with `ILLEGAL_COMMAND` (R108), which the machine models. -/
  | illegalCommand (w : BitVec 32)
  /-- 48 bits with a bit above bit 40 set: no 41-bit host-operation word (R91). -/
  | bitsAboveHop
  /-- Neither 4 bytes (a command word) nor 6 bytes (a host-operation word in whole bytes). -/
  | badLength (n : Nat)
deriving DecidableEq, Repr

/-- `DecodeCmd` (R82): total over all words of 32 bits. -/
def decodeCmd (w : BitVec 32) : CmdCode :=
  if w.extractLsb' 4 28 ≠ 0#28 then .illegal
  else if w.extractLsb' 0 4 = 0x0#4 then .nop
  else if w.extractLsb' 0 4 = 0x1#4 then .encode
  else if w.extractLsb' 0 4 = 0x2#4 then .decode
  else if w.extractLsb' 0 4 = 0x3#4 then .configure
  else .illegal

/-- The instruction of a command code; ILLEGAL has no opcode-table row (R108). -/
def CmdCode.instr : CmdCode → Option Instr
  | .nop => some .nop
  | .encode => some .encode
  | .decode => some .decode
  | .configure => some .configure
  | .illegal => none

/-- Field `D` of a host-operation word, bit 40 (R91): 1 = write, 0 = read. -/
def hopD (w : Hop) : BitVec 1 := w.extractLsb' 40 1

/-- Field `OFF` of a host-operation word, bits [39:32] (R91). -/
def hopOff (w : Hop) : BitVec 8 := w.extractLsb' 32 8

/-- Field `DATA` of a host-operation word, bits [31:0] (R91). -/
def hopData (w : Hop) : BitVec 32 := w.extractLsb' 0 32

/-- The host operation of a host-operation word (R91, R93): bit 40 alone selects the row. DESIGN CHOICE
(log entry 7): the `DATA` field of a read, which R91 gives as 0, is not looked at, since a read carries no
write data on the port (R7) and the opcode table's mask does not cover it. -/
def decodeHop (w : Hop) : Instr :=
  if hopD w = 1#1 then .wr (hopOff w) (hopData w) .four else .rd (hopOff w) .four

/-- Four bytes as a 32-bit word, the first byte in bits [7:0] (R62). -/
def wordOfBytes (b0 b1 b2 b3 : Byte) : BitVec 32 := b3 ++ b2 ++ b1 ++ b0

/-- The instruction some bytes stand for. Four bytes are a command word, the data of a write to `CTRL` (R80)
in its byte lanes (R62); six bytes are a host-operation word (R91) in whole bytes, least significant first. -/
def decodeBytes : List Byte → Except DecodeReject Instr
  | [b0, b1, b2, b3] =>
    match (decodeCmd (wordOfBytes b0 b1 b2 b3)).instr with
    | some i => .ok i
    | none => .error (.illegalCommand (wordOfBytes b0 b1 b2 b3))
  | [b0, b1, b2, b3, b4, b5] =>
    if b5.extractLsb' 1 7 ≠ 0#7 then .error .bitsAboveHop
    else .ok (decodeHop (b5.extractLsb' 0 1 ++ b4 ++ wordOfBytes b0 b1 b2 b3))
  | bs => .error (.badLength bs.length)

/-- The low `n` bytes of a number, least significant first. -/
def bytesOfNat : Nat → Nat → List Byte
  | 0, _ => []
  | n + 1, w => BitVec.ofNat 8 w :: bytesOfNat n (w / 256)

/-- How many bytes a row of the opcode table takes: 4 for the rows of format CMD (R80), 6 for the 41-bit rows
of format HOP (R91) in whole bytes. -/
def tableBytes (nbits : Nat) : Nat := if nbits ≤ 32 then 4 else 6

/-- The instruction `decodeBytes` reads from an instruction whose bits are `w`, numbered as the opcode table
numbers them. -/
def decodeTableWord (nbits w : Nat) : Option Instr :=
  if w < 256 ^ tableBytes nbits then
    match decodeBytes (bytesOfNat (tableBytes nbits) w) with
    | .ok i => some i
    | .error _ => none
  else none

/-! ### The encoder -/

/-- The four bytes of a 32-bit word, bits [7:0] first (R62). -/
def bytesOfWord (w : BitVec 32) : List Byte :=
  [w.extractLsb' 0 8, w.extractLsb' 8 8, w.extractLsb' 16 8, w.extractLsb' 24 8]

/-- A host-operation word from its fields (R91). -/
def mkHop (d : BitVec 1) (off : BitVec 8) (data : BitVec 32) : Hop := d ++ off ++ data

/-- The six bytes of a host-operation word, least significant first; bits 47 to 41 are 0. -/
def bytesOfHop (w : Hop) : List Byte :=
  bytesOfWord (w.extractLsb' 0 32) ++ [w.extractLsb' 32 8, (w.extractLsb' 40 1).setWidth 8]

/-- The bytes of an instruction: a command word (R81) or a host-operation word (R91, with `DATA` 0 for a
read). Meant for well-formed instructions; the size of a host operation is not encoded. -/
def encodeBytes : Instr → List Byte
  | .nop => bytesOfWord 0x00000000#32
  | .encode => bytesOfWord 0x00000001#32
  | .decode => bytesOfWord 0x00000002#32
  | .configure => bytesOfWord 0x00000003#32
  | .rd off _ => bytesOfHop (mkHop 0#1 off 0#32)
  | .wr off data _ => bytesOfHop (mkHop 1#1 off data)

end Sys2Proof
end

