-- ==== Sys2Proof/Config.lean ====
section
/-! DEFINITION. What one installation of the block fixes and the spec leaves OPEN (00_scope.md R8, R50):
the parameters the block itself reads (`Params`, an argument of the step through `State.params`), and the
host-side parameters of the salt and seed derivation (R145 to R148), which have no value here at all. -/

namespace Sys2Proof

/-- The block's OPEN parameters (R8, R50). They are fixed for one installation and no step changes them;
the machine takes them as an argument through `State.params`, so a statement about every state holds for
every admitted value of them. -/
structure Params where
  /-- `CHECK_SET` (R134): the bytes that decode to the reserved check-digit sentinel. -/
  checkSet : List Byte
  /-- `BASE / 256` (R68): the spec takes `BASE` to be a multiple of 256, so the page number is the parameter. -/
  basePage : Nat
deriving DecidableEq, Repr

/-- `BASE` (R8, R68): where the platform places the 256-byte window. -/
def Params.base (p : Params) : Nat := 256 * p.basePage

/-- The default of `CHECK_SET` (R8): `$ * = U u ~`. The spec marks it as general knowledge (G2). -/
def defaultCheckSet : List Byte := [0x24, 0x2A, 0x3D, 0x55, 0x75, 0x7E]

/-- The parameters `State.reset` is given: the default `CHECK_SET`, and `BASE = 0`.
DESIGN CHOICE (log entries 3 and 4): both are OPEN in the spec. -/
def Params.default : Params := { checkSet := defaultCheckSet, basePage := 0 }

/-- `FinishMix` (R146): the host-side finishing mix, OPEN. No property of it is assumed. -/
opaque Config.finishMix : BitVec 32 → BitVec 32

/-- `Shuffle` (R147): the host-side seeded shuffle, OPEN. A seed gives a reordering of the 32 canonical
indices, so that every output passes R139 as R147 requires; nothing else is assumed of it. -/
opaque Config.shuffle : Nat → Equiv.Perm (Fin 32)

/-- `SEED_BITS` (R147): the width of an explicit seed, OPEN. -/
opaque Config.seedBits : Nat

end Sys2Proof
end

