-- ==== Sys2Proof/Machine/Alphabet.lean ====
section
/-! DEFINITION. The canonical alphabet, case folding, and the construction of a decode table
(41_configure.md R130 to R137; 00_scope.md R10 for `upper` and `lower`). -/

namespace Sys2Proof.Machine

/-- An entry of a decode table (R88): a digit, or one of the two sentinels. -/
inductive DecEntry where
  | digit (d : Digit)
  | invalid
  | check
deriving DecidableEq, Repr

/-- `CANON` (R130): the symbol of each canonical digit value. -/
def canon : Vector Byte 32 :=
  #v[0x30, 0x31, 0x32, 0x33, 0x34, 0x35, 0x36, 0x37, 0x38, 0x39,
     0x41, 0x42, 0x43, 0x44, 0x45, 0x46, 0x47, 0x48, 0x4A, 0x4B, 0x4D, 0x4E,
     0x50, 0x51, 0x52, 0x53, 0x54, 0x56, 0x57, 0x58, 0x59, 0x5A]

/-- `c ∈ CANON` (R131). -/
def isCanon (c : Byte) : Bool := canon.toList.contains c

/-- `upper` (R10): folds 'a' to 'z' to uppercase and leaves every other byte. -/
def upper (b : Byte) : Byte := if 0x61#8 ≤ b ∧ b ≤ 0x7A#8 then b - 0x20#8 else b

/-- `lower` (R10): folds 'A' to 'Z' to lowercase and leaves every other byte. -/
def lower (b : Byte) : Byte := if 0x41#8 ≤ b ∧ b ≤ 0x5A#8 then b + 0x20#8 else b

/-- The canonical glyph a byte stands for when it is read (R136): its uppercase form, with the look-alike
'O' read as '0' and the look-alikes 'I' and 'L' read as '1'. -/
def glyph (b : Byte) : Byte :=
  if upper b = 0x4F#8 then 0x30#8
  else if upper b = 0x49#8 ∨ upper b = 0x4C#8 then 0x31#8
  else upper b

/-- One of the 60 bytes that decode to a digit under every alphabet (R133, R137). -/
def isDigitByte (b : Byte) : Bool := isCanon (glyph b)

/-- `T[b] <- e` in a decode table. -/
def setEntry (t : Vector DecEntry 256) (b : Byte) (e : DecEntry) : Vector DecEntry 256 :=
  t.set b.toNat e b.isLt

/-- `T[b]`: the total lookup of R184. -/
def entryAt (t : Vector DecEntry 256) (b : Byte) : DecEntry := t[b.toNat]'b.isLt

/-- The body of the symbol loop of `BuildDec` (R137): the bytes that symbol `c` of coded digit `d` registers. -/
def registerSymbol (t : Vector DecEntry 256) (c : Byte) (d : Digit) : Vector DecEntry 256 :=
  let t := setEntry t c (.digit d)
  let t := setEntry t (lower c) (.digit d)
  let t := if c = 0x30#8 then setEntry (setEntry t 0x4F#8 (.digit d)) 0x6F#8 (.digit d) else t
  if c = 0x31#8 then
    setEntry (setEntry (setEntry (setEntry t 0x49#8 (.digit d)) 0x69#8 (.digit d)) 0x4C#8 (.digit d)) 0x6C#8 (.digit d)
  else t

/-- The symbol loop of `BuildDec` (R137), from coded digit `d` on. -/
def registerFrom : Nat → List Byte → Vector DecEntry 256 → Vector DecEntry 256
  | _, [], t => t
  | d, c :: cs, t => registerFrom (d + 1) cs (registerSymbol t c (BitVec.ofNat 5 d))

/-- `BuildDec(P)` (R137), for a given `CHECK_SET`. -/
def buildDec (checkSet : List Byte) (p : Vector Byte 32) : Vector DecEntry 256 :=
  registerFrom 0 p.toList
    (checkSet.foldl (fun t b => setEntry t b .check) (Vector.replicate 256 .invalid))

/-- `CHECK_SET` is admitted (R134): it is disjoint from the 60 digit bytes. -/
def checkSetAdmitted (checkSet : List Byte) : Bool := checkSet.all (fun b => !isDigitByte b)

/-- The alphabet `p` is a permutation of `CANON` (R48 (a), R135): 32 pairwise distinct canonical symbols. -/
def isAlphabet (p : Vector Byte 32) : Bool := p.toList.all isCanon && decide p.toList.Nodup

end Sys2Proof.Machine
end

