-- ==== Sys2Proof/Machine/State.lean ====
section
/-! DEFINITION. The state of the block (10_state.md), the events that drive it (20_memory.md R60), and the
state after reset (70_reset_and_hazards.md R230, R231). -/

namespace Sys2Proof.Machine

/-- The reasons a step can stop with a fault: none. The spec gives every event an effect; a bus error is a
response on the port and an error completion is a report in registers (R206, R209), both next states.
Nothing raises a fault, which is safe: no behaviour of the block is cut short. -/
inductive Fault where
deriving DecidableEq, Repr

/-- The reasons a step can be refused. -/
inductive Refusal where
  /-- An instruction without a meaning yet, named by its mnemonic. Raised by no arm of `exec`: every
  instruction has its meaning. Safe, since a refused step proves nothing about a next state. -/
  | notModelled (mnemonic : String)
deriving DecidableEq, Repr

/-- A command waiting for its completion step (R42). -/
inductive Command where
  | encode
  | decode
  | configure
  | illegal
deriving DecidableEq, Repr

/-- `STATUS` (R25), one field for each of its four implemented bits; bits [31:4] are reserved and hold nothing. -/
structure Status where
  busy : Bool
  done : Bool
  err : Bool
  drop : Bool
deriving DecidableEq, Repr

/-- `ERRINFO` (R27): `CODE` [7:0], `POS` [15:8], `BYTE` [23:16]; bits [31:24] are reserved and hold nothing. -/
structure ErrInfo where
  code : BitVec 8
  pos : BitVec 8
  byte : BitVec 8
deriving DecidableEq, Repr

/-- The hidden active configuration (R44 to R47). -/
structure Active where
  /-- `A.PERM` (R44): the output symbol of each coded digit. -/
  perm : Vector Byte 32
  /-- `A.DEC` (R45): the decode table, indexed by a byte value. -/
  dec : Vector DecEntry 256
  /-- `A.SALT` (R46): the salt bytes 0 to 12. -/
  salt : Vector Byte 13
  /-- `A.SALT_LEN` (R47). -/
  saltLen : Word
deriving DecidableEq, Repr

/-- What one bus transaction asks (R7): `wdata` is on the port for writes only. -/
inductive Access where
  | read
  | write (wdata : Word)
deriving DecidableEq, Repr

/-- A bus transaction at a bus address (R7, R68). -/
structure Transaction where
  addr : Nat
  size : Size
  access : Access
deriving DecidableEq, Repr

/-- One event (R60): a transaction of the host, the engine's turn, or reset. -/
inductive Event where
  /-- The host performs the transaction of a host-operation word (R91). -/
  | hop (w : Hop)
  /-- A bus master performs a transaction at an address, of any size (R7, R68). -/
  | bus (t : Transaction)
  /-- The engine takes its completion step if a command is pending (R106). -/
  | engine
  /-- `rst` (R230). -/
  | reset
deriving DecidableEq, Repr

/-- What the port returned for the last transaction the block answered (R7): `rdata` for reads only, and `err`. -/
inductive Response where
  | none
  | read (rdata : Word) (err : Bool)
  | write (err : Bool)
deriving DecidableEq, Repr

/-- The state of the block. `ID` (hardwired, R23), `CTRL` (holds no state, R24), the reserved offsets (R37) and
`irq` (a function of two flags, R43) are views of it and hold nothing; the engine's temporaries `W`, `J`, `ACC`
and `PLACE` are local to a completion step (R21). The last three fields are the model's own: the block's fixed
parameters, the port's last answer, and the order in which the next events come. -/
structure State where
  /-- `STATUS` (R25). -/
  status : Status
  /-- `INTEN.DONE_IE` (R26). -/
  doneIe : Bool
  /-- `ERRINFO` (R27). -/
  errInfo : ErrInfo
  /-- `VAL_LO` (R28). -/
  valLo : Word
  /-- `VAL_HI` (R28). -/
  valHi : Word
  /-- `RES_LO` (R29). -/
  resLo : Word
  /-- `RES_HI` (R29). -/
  resHi : Word
  /-- `IN_LEN` (R30). -/
  inLen : Word
  /-- `OUT_LEN.LEN` (R32). -/
  outLen : BitVec 4
  /-- `SALT_LEN` (R34). -/
  saltLen : Word
  /-- `IN_TEXT0` to `IN_TEXT3` (R31). -/
  inText : Vector Word 4
  /-- `OUT_TEXT0` to `OUT_TEXT3` (R33). -/
  outText : Vector Word 4
  /-- `SALT0` to `SALT3` (R35). -/
  salt : Vector Word 4
  /-- `PERM0` to `PERM7` (R36). -/
  perm : Vector Word 8
  /-- The active configuration `A` (R44 to R47). -/
  active : Active
  /-- `PEND` (R42). -/
  pend : Option Command
  /-- The model's own: the OPEN parameters the block takes (R8, R50); no step changes them. -/
  params : Params
  /-- The model's own: what the port returned last (R7). -/
  response : Response
  /-- The model's own: the events to come, the next one first; when it is empty the engine has its turn. -/
  schedule : List Event
deriving DecidableEq, Repr

/-- The reset active configuration (R230): the canonical alphabet, its digit table `D0` (R132), the all-zero
salt of length 1. -/
def Active.reset (checkSet : List Byte) : Active :=
  { perm := canon
    dec := buildDec checkSet canon
    salt := Vector.replicate 13 0x00#8
    saltLen := 1 }

/-- The reset state (R230, R231) of a block with the given parameters, no transaction answered yet and no
event scheduled. -/
def State.resetWith (p : Params) : State :=
  { status := { busy := false, done := false, err := false, drop := false }
    doneIe := false
    errInfo := { code := 0, pos := 0, byte := 0 }
    valLo := 0
    valHi := 0
    resLo := 0
    resHi := 0
    inLen := 0
    outLen := 0
    saltLen := 1
    inText := Vector.replicate 4 0
    outText := Vector.replicate 4 0
    salt := Vector.replicate 4 0
    perm := #v[0x33323130, 0x37363534, 0x42413938, 0x46454443, 0x4B4A4847, 0x51504E4D, 0x56545352, 0x5A595857]
    active := Active.reset p.checkSet
    pend := Option.none
    params := p
    response := .none
    schedule := [] }

/-- The machine right after reset (R230), with the default parameters. -/
def State.reset : State := State.resetWith Params.default

end Sys2Proof.Machine
end

