-- ==== Sys2Proof/Machine/Flags.lean ====
section
/-! DEFINITION. The flags (10_state.md R25, R40): every way `STATUS` is read or changed, `ERRINFO` as a word with the
error codes (60_exceptions.md R200), and the interrupt output (R43, R210). -/

namespace Sys2Proof.Machine

/-- A flag as one bit. -/
def flagBit (b : Bool) : BitVec 1 := BitVec.ofBool b

/-- `STATUS` as it is read (R25, R100): `DROP`, `ERR`, `DONE`, `BUSY` in bits 3 to 0. -/
def Status.word (st : Status) : Word :=
  (flagBit st.drop ++ flagBit st.err ++ flagBit st.done ++ flagBit st.busy).setWidth 32

/-- The flags at the acceptance of a command (R105). -/
def Status.accepted (st : Status) : Status := { st with busy := true, done := false, err := false }

/-- The flags at a completion (R204, R205), `err` saying whether the command failed. -/
def Status.completed (st : Status) (err : Bool) : Status := { st with busy := false, done := true, err := err }

/-- The flags after a dropped write (R103). -/
def Status.dropped (st : Status) : Status := { st with drop := true }

/-- `StatusWrite` (R104): a 1 in bit 1 clears `DONE`, a 1 in bit 3 clears `DROP`; every other bit is ignored. -/
def Status.write (st : Status) (data : Word) : Status :=
  { st with done := st.done && !data.getLsbD 1, drop := st.drop && !data.getLsbD 3 }

/-- The error codes (R200); codes 8 to 255 are reserved and never written. -/
inductive ErrorCode where
  | emptyInput
  | outOfRange
  | invalidDigit
  | checkDigitUnsupported
  | badAlphabet
  | emptySalt
  | illegalCommand
deriving DecidableEq, Repr

/-- The number of an error code (R200). -/
def ErrorCode.bits : ErrorCode → BitVec 8
  | .emptyInput => 1
  | .outOfRange => 2
  | .invalidDigit => 3
  | .checkDigitUnsupported => 4
  | .badAlphabet => 5
  | .emptySalt => 6
  | .illegalCommand => 7

/-- `Code(pos, byte)` of a `fail` (R10): `fail Code` alone means position 0 and byte 0. -/
structure Failure where
  code : ErrorCode
  pos : BitVec 8 := 0
  byte : Byte := 0
deriving DecidableEq, Repr

/-- `ERRINFO` with no error (R204). -/
def ErrInfo.none : ErrInfo := { code := 0, pos := 0, byte := 0 }

/-- `ERRINFO` after `fail Code(pos, byte)` (R205). -/
def Failure.info (f : Failure) : ErrInfo := { code := f.code.bits, pos := f.pos, byte := f.byte }

/-- `ERRINFO` as it is read (R27, R100): `BYTE`, `POS`, `CODE` in bits 23 to 0. -/
def ErrInfo.word (e : ErrInfo) : Word := (e.byte ++ e.pos ++ e.code).setWidth 32

/-- The `irq` output (R43, R210): `STATUS.DONE AND INTEN.DONE_IE`. -/
def State.irq (s : State) : Bool := s.status.done && s.doneIe

end Sys2Proof.Machine
end

