-- ==== Sys2Proof/Machine/Operands.lean ====
section
/-! DEFINITION. The operands of the commands (30_encoding.md R83 to R85; 41_configure.md R142): the 64-bit value and
result, the byte groups, the active alphabet and the keystream. -/

namespace Sys2Proof.Machine

/-- `TextByte(T, i)` (R85): byte `i` of a group of `n` registers, for `i < 4n`. The rule gives no byte past
the group and no operation reads one; the total function answers 0 there. -/
def textByte {n : Nat} (t : Vector Word n) (i : Nat) : Byte :=
  (t[i / 4]?.getD 0#32).extractLsb' (8 * (i % 4)) 8

/-- The register of a byte group that holds bytes `4k` to `4k+3` of a text, `0x00` past its end (R85, R166). -/
def packWord (bs : List Byte) (k : Nat) : Word :=
  bs.getD (4 * k + 3) 0#8 ++ bs.getD (4 * k + 2) 0#8 ++ bs.getD (4 * k + 1) 0#8 ++ bs.getD (4 * k) 0#8

/-- A text in a group of four registers, filled with `0x00` to 16 bytes (R85, R166). -/
def packText (bs : List Byte) : Vector Word 4 := #v[packWord bs 0, packWord bs 1, packWord bs 2, packWord bs 3]

/-- A text of 32 bytes in a group of eight registers (R85). -/
def packText8 (bs : List Byte) : Vector Word 8 :=
  #v[packWord bs 0, packWord bs 1, packWord bs 2, packWord bs 3, packWord bs 4, packWord bs 5, packWord bs 6, packWord bs 7]

/-- `VALUE = R(VAL_HI) ++ R(VAL_LO)` (R84). -/
def State.value (s : State) : Value := s.valHi ++ s.valLo

/-- `RESULT = R(RES_HI) ++ R(RES_LO)` (R29, R84). -/
def State.result (s : State) : Value := s.resHi ++ s.resLo

/-- Bits [31:0] of a 64-bit result (R84). -/
def lowHalf (v : Value) : Word := v.extractLsb' 0 32

/-- Bits [63:32] of a 64-bit result (R84). -/
def highHalf (v : Value) : Word := v.extractLsb' 32 32

/-- `A.PERM[c]`: the forward lookup of a coded digit (R135). -/
def Active.symbol (a : Active) (c : Digit) : Byte := a.perm[c.toNat]'c.isLt

/-- `K(j)` (R142): `A.SALT[j mod A.SALT_LEN] mod 32`, for draws 0 to 12. The index is then at most 12 (R143);
no command draws further. -/
def Active.keystream (a : Active) (j : Nat) : Digit :=
  (a.salt[j % a.saltLen.toNat]?.getD 0#8).extractLsb' 0 5

end Sys2Proof.Machine
end

