-- ==== Sys2Proof/Machine/Registers.lean ====
section
/-! DEFINITION. The register window (10_state.md R22): which register stands at which offset, what a read of it
returns (R100), and the plain update of an RW data register (R102). -/

namespace Sys2Proof.Machine

/-- The registers of the window (R22), a byte group's registers by their number; `reserved` stands for the
offsets 0x80 to 0xFC (R37). -/
inductive Reg where
  | id
  | ctrl
  | status
  | inten
  | errinfo
  | valLo
  | valHi
  | resLo
  | resHi
  | inLen
  | outLen
  | saltLen
  | inText (k : Fin 4)
  | outText (k : Fin 4)
  | salt (k : Fin 4)
  | perm (k : Fin 8)
  | reserved
deriving DecidableEq, Repr

/-- The register map (R22), one row for each register. -/
def regTable : List (BitVec 8 × Reg) :=
  [(0x00, .id), (0x04, .ctrl), (0x08, .status), (0x0C, .inten), (0x10, .errinfo),
   (0x14, .valLo), (0x18, .valHi), (0x1C, .resLo), (0x20, .resHi),
   (0x24, .inLen), (0x28, .outLen), (0x2C, .saltLen),
   (0x30, .inText 0), (0x34, .inText 1), (0x38, .inText 2), (0x3C, .inText 3),
   (0x40, .outText 0), (0x44, .outText 1), (0x48, .outText 2), (0x4C, .outText 3),
   (0x50, .salt 0), (0x54, .salt 1), (0x58, .salt 2), (0x5C, .salt 3),
   (0x60, .perm 0), (0x64, .perm 1), (0x68, .perm 2), (0x6C, .perm 3),
   (0x70, .perm 4), (0x74, .perm 5), (0x78, .perm 6), (0x7C, .perm 7)]

/-- The register at an aligned offset; every other aligned offset is reserved (R37). -/
def regAt (off : BitVec 8) : Reg := (regTable.lookup off).getD .reserved

/-- `ID` (R23): hardwired. -/
def idWord : Word := 0x57450007#32

/-- What a served read of a register returns (R100). -/
def readReg (s : State) : Reg → Word
  | .id => idWord
  | .ctrl => 0
  | .status => s.status.word
  | .inten => (flagBit s.doneIe).setWidth 32
  | .errinfo => s.errInfo.word
  | .valLo => s.valLo
  | .valHi => s.valHi
  | .resLo => s.resLo
  | .resHi => s.resHi
  | .inLen => s.inLen
  | .outLen => s.outLen.setWidth 32
  | .saltLen => s.saltLen
  | .inText k => s.inText[k]
  | .outText k => s.outText[k]
  | .salt k => s.salt[k]
  | .perm k => s.perm[k]
  | .reserved => 0

/-- The RW data registers (R102), the ones a busy block does not let the host write (R103). -/
def Reg.isRwData : Reg → Bool
  | .valLo | .valHi | .inLen | .saltLen => true
  | .inText _ | .salt _ | .perm _ => true
  | .id | .ctrl | .status | .inten | .errinfo => false
  | .resLo | .resHi | .outLen | .outText _ | .reserved => false

/-- `R(register) <- data` for an RW data register (R102); every other register is left as it is. -/
def setReg (s : State) (r : Reg) (data : Word) : State :=
  match r with
  | .valLo => { s with valLo := data }
  | .valHi => { s with valHi := data }
  | .inLen => { s with inLen := data }
  | .saltLen => { s with saltLen := data }
  | .inText k => { s with inText := s.inText.set k data }
  | .salt k => { s with salt := s.salt.set k data }
  | .perm k => { s with perm := s.perm.set k data }
  | .id | .ctrl | .status | .inten | .errinfo => s
  | .resLo | .resHi | .outLen | .outText _ | .reserved => s

end Sys2Proof.Machine
end

