-- ==== Sys2Proof/Machine/Ops.lean ====
section
/-! DEFINITION. The shared operations: the host's bus read and write (40_command_interface.md R100 to R105), the two
completions, which are the block's form of taking an exception and returning from one (60_exceptions.md R204,
R205), reset (70_reset_and_hazards.md R230) and the address decode of the window (20_memory.md R68). -/

namespace Sys2Proof.Machine

/-! ### The bus -/

/-- A transaction the block does not serve (R61): a size other than 4, or an offset that is no multiple of 4. -/
def busError (off : BitVec 8) (size : Size) : Bool := !decide (size = .four) || !decide (off.extractLsb' 0 2 = 0#2)

/-- The port's answer to a transaction (R7). -/
def State.respond (s : State) (r : Response) : State := { s with response := r }

/-- `BusRead` (R100): `rdata` and `err`. -/
def busRead (s : State) (off : BitVec 8) (size : Size) : Word × Bool :=
  if busError off size then (0, true) else (readReg s (regAt off), false)

/-- A write dropped because a command is pending (R103). -/
def State.markDropped (s : State) : State := { s with status := s.status.dropped }

/-- `PEND <- c` with the flags of an acceptance (R105). -/
def State.start (s : State) (c : Command) : State := { s with pend := some c, status := s.status.accepted }

/-- `Accept(w)` (R105). -/
def accept (s : State) (w : Word) : State :=
  match decodeCmd w with
  | .nop => s
  | .encode => s.start .encode
  | .decode => s.start .decode
  | .configure => s.start .configure
  | .illegal => s.start .illegal

/-- The effect of a served write on a register (R101 to R105). -/
def writeReg (s : State) (r : Reg) (data : Word) : State :=
  match r with
  | .status => { s with status := s.status.write data }
  | .inten => { s with doneIe := data.getLsbD 0 }
  | .ctrl => if s.pend.isSome then s.markDropped else accept s data
  | r => if r.isRwData then (if s.pend.isSome then s.markDropped else setReg s r data) else s

/-- `BusWrite` (R101): the state after it and `err`. -/
def busWrite (s : State) (off : BitVec 8) (data : Word) (size : Size) : State × Bool :=
  if busError off size then (s, true) else (writeReg s (regAt off) data, false)

/-- The byte at an offset of the window, through a read of the register that holds it (R62, R63). -/
def windowByte (s : State) (off : BitVec 8) : Byte :=
  (readReg s (regAt (off &&& 0xFC#8))).extractLsb' (8 * (off.extractLsb' 0 2).toNat) 8

/-! ### Completion -/

/-- `complete()` (R204): the success completion. -/
def complete (s : State) : State :=
  { s with pend := Option.none, status := s.status.completed false, errInfo := ErrInfo.none }

/-- `fail Code(pos, byte)` (R205): the error completion. Only a failed DECODE writes the result registers. -/
def fail (s : State) (f : Failure) : State :=
  { s with
    resLo := if s.pend = some Command.decode then 0 else s.resLo
    resHi := if s.pend = some Command.decode then 0 else s.resHi
    errInfo := f.info
    pend := Option.none
    status := s.status.completed true }

/-! ### Reset and the address map -/

/-- The reset event (R230): every register and the active configuration at their reset values, a pending command
discarded. The parameters and the events still to come are not the block's and stay. -/
def State.resetBlock (s : State) : State := { State.resetWith s.params with schedule := s.schedule }

/-- The window offset of a bus address (R68): `address mod 256` for an address of `BASE` to `BASE + 0xFF`; the
interconnect routes no other address to the block. -/
def windowOffset (p : Params) (addr : Nat) : Option (BitVec 8) :=
  if p.base ≤ addr ∧ addr < p.base + 256 then some (BitVec.ofNat 8 (addr % 256)) else Option.none

/-- The host operation of a transaction at a window offset (R100, R101). -/
def Transaction.instrAt (t : Transaction) (off : BitVec 8) : Instr :=
  match t.access with
  | .read => .rd off t.size
  | .write data => .wr off data t.size

/-- The host operation a bus transaction is for this block, if its address lies in the window (R68). -/
def Transaction.instr (t : Transaction) (p : Params) : Option Instr := (windowOffset p t.addr).map t.instrAt

end Sys2Proof.Machine
end

