-- ==== Sys2Proof/Machine/Configure.lean ====
section
/-! DEFINITION. `CONFIGURE` (41_configure.md R138 to R141): validate the staged alphabet and salt and install them. -/

namespace Sys2Proof.Machine

/-- The staged alphabet byte at index `i`, folded (R138). -/
def foldedByte (perm : Vector Word 8) (i : Nat) : Byte := upper (textByte perm i)

/-- The staged byte at index `i` is refused (R139): its folded form is not canonical, or equals the folded byte at
a smaller index. -/
def badAlphabetAt (perm : Vector Word 8) (i : Nat) : Bool :=
  !isCanon (foldedByte perm i) || (List.range i).any (fun j => foldedByte perm j == foldedByte perm i)

/-- The first refused index, in index order 0 to 31 (R139). -/
def firstBadIndex (perm : Vector Word 8) : Option Nat := (List.range 32).find? (badAlphabetAt perm)

/-- The folded staged alphabet `P` (R138). -/
def foldedAlphabet (perm : Vector Word 8) : Vector Byte 32 := Vector.ofFn fun i => foldedByte perm i

/-- The first 13 staged salt bytes (R138). -/
def stagedSalt (salt : Vector Word 4) : Vector Byte 13 := Vector.ofFn fun i => textByte salt i

/-- The configuration CONFIGURE installs (R138, R140). -/
@[irreducible] def stagedConfiguration (s : State) : Active :=
  { perm := foldedAlphabet s.perm
    dec := buildDec s.params.checkSet (foldedAlphabet s.perm)
    salt := stagedSalt s.salt
    saltLen := s.saltLen }

/-- The check of CONFIGURE (R138, R203): the alphabet first, in index order, then the salt length. -/
def configureFailure (s : State) : Option Failure :=
  match firstBadIndex s.perm with
  | some i => some { code := .badAlphabet, pos := BitVec.ofNat 8 i, byte := textByte s.perm i }
  | Option.none => if s.saltLen = 0 then some { code := .emptySalt } else Option.none

/-- The four parts of the active configuration, written in one step (R140). -/
def State.install (s : State) (a : Active) : State := { s with active := a }

/-- `ExecConfigure` (R138). -/
def execConfigure (s : State) : Host.Outcome State Fault Refusal :=
  match configureFailure s with
  | some f => .next (fail s f)
  | Option.none => .next (complete (s.install (stagedConfiguration s)))

end Sys2Proof.Machine
end

