-- ==== Sys2Proof/Machine/DecodeText.lean ====
section
/-! DEFINITION. `DECODE` (43_decode.md R180 to R189): the checks, the walk over the input bytes, and the result. -/

namespace Sys2Proof.Machine

/-- The loop of `ExecDecode` (R180): `k` bytes left, from position `i`, with the accumulator and the place value. -/
def decodeLoop (a : Active) (text : Vector Word 4) : Nat → Nat → Value → Value → Except Failure Value
  | 0, _, acc, _ => .ok acc
  | k + 1, i, acc, place =>
    match entryAt a.dec (textByte text i) with
    | .invalid => .error { code := .invalidDigit, pos := BitVec.ofNat 8 i, byte := textByte text i }
    | .check => .error { code := .checkDigitUnsupported, pos := BitVec.ofNat 8 i, byte := textByte text i }
    | .digit t => decodeLoop a text k (i + 1) (acc + (t ^^^ a.keystream i).setWidth 64 * place) (place / 32#64)

/-- `PLACE` before the first byte of an input of `n` bytes (R180): `32^(n-1)`. -/
def firstPlace (n : Nat) : Value := 1#64 <<< (5 * (n - 1))

/-- The decoded value or the first failing check (R180, R181): the empty input, the length, then each byte in order. -/
def decodeText (a : Active) (len : Word) (text : Vector Word 4) : Except Failure Value :=
  if len = 0 then .error { code := .emptyInput }
  else if 13#32 < len then .error { code := .outOfRange }
  else decodeLoop a text len.toNat 0 0 (firstPlace len.toNat)

/-- `RES_HI` and `RES_LO` (R188). -/
def State.setResult (s : State) (v : Value) : State := { s with resLo := lowHalf v, resHi := highHalf v }

/-- `ExecDecode` (R180). -/
def execDecode (s : State) : Host.Outcome State Fault Refusal :=
  match decodeText s.active s.inLen s.inText with
  | .ok v => .next (complete (s.setResult v))
  | .error f => .next (fail s f)

end Sys2Proof.Machine
end

