-- ==== Sys2Proof/Machine/Encode.lean ====
section
/-! DEFINITION. `ENCODE` (42_encode.md R160 to R166): the bit-packing loop over the working register `W`. -/

namespace Sys2Proof.Machine

/-- `Emit(d)` (R165): the true digit goes through the next keystream draw and the active alphabet. The draw index
`J` is the number of digits emitted so far. -/
def emit (a : Active) (out : List Byte) (d : Digit) : List Byte :=
  out ++ [a.symbol (d ^^^ a.keystream out.length)]

/-- `W[63:59]` (R163, R164). -/
def topQuintet (w : Value) : Digit := w.extractLsb' 59 5

/-- `v[63:60]` (R163). -/
def topGroup (v : Value) : BitVec 4 := v.extractLsb' 60 4

/-- The working register for a value, with the marker in its low 4 bits (R161). -/
def loadMarked (marker : BitVec 4) (v : Value) : Value := v <<< 4 ||| marker.setWidth 64

/-- `STOP` (R161, R169): the marker shifted up by 60 bits. -/
def stopValue (marker : BitVec 4) : Value := marker.setWidth 64 <<< 60

/-- The skip loop (R163), at most `k` shifts. -/
def skipLeading : Nat → Value → Value
  | 0, w => w
  | k + 1, w => if topQuintet w = 0 then skipLeading k (w <<< 5) else w

/-- The emit loop (R164), at most `k` digits; the test against `STOP` comes before each iteration. -/
def emitLoop (a : Active) (stop : Value) : Nat → Value → List Byte → List Byte
  | 0, _, out => out
  | k + 1, w, out => if w = stop then out else emitLoop a stop k (w <<< 5) (emit a out (topQuintet w))

/-- The output of ENCODE (R160) for a marker pattern, within the loop bounds of R163 and R167 (11 skips, 13 digits). -/
def encodeWith (marker : BitVec 4) (a : Active) (v : Value) : List Byte :=
  if v = 0 then emit a [] 0
  else if topGroup v ≠ 0 then
    emitLoop a (stopValue marker) 13 (loadMarked marker v) (emit a [] ((topGroup v).setWidth 5))
  else emitLoop a (stopValue marker) 13 (skipLeading 11 (loadMarked marker v)) []

/-- The stop-marker pattern (R161). -/
def stopMarker : BitVec 4 := 0x8#4

/-- The output symbols of ENCODE (R160). -/
def encodeText (a : Active) (v : Value) : List Byte := encodeWith stopMarker a v

/-- `OUT_LEN.LEN` and `OUT_TEXT` (R166). -/
def State.setOutput (s : State) (out : List Byte) : State :=
  { s with outLen := BitVec.ofNat 4 out.length, outText := packText out }

/-- `ExecEncode` (R160). -/
def execEncode (s : State) : Host.Outcome State Fault Refusal :=
  .next (complete (s.setOutput (encodeText s.active s.value)))

end Sys2Proof.Machine
end

