-- ==== Sys2Proof/Machine/HostBus.lean ====
section
/-! DEFINITION. The host operations `RD` and `WR`, the command `NOP`, and the illegal command
(40_command_interface.md R100 to R108). -/

namespace Sys2Proof.Machine

/-- `RD` (R100): the port returns `rdata` and `err`; nothing else changes (R66). -/
def execRd (off : BitVec 8) (size : Size) (s : State) : Host.Outcome State Fault Refusal :=
  .next (s.respond (.read (busRead s off size).1 (busRead s off size).2))

/-- `WR` (R101): the write with its command dispatch, and the port's `err`. -/
def execWr (off : BitVec 8) (data : BitVec 32) (size : Size) (s : State) : Host.Outcome State Fault Refusal :=
  .next ((busWrite s off data size).1.respond (.write (busWrite s off data size).2))

/-- `NOP` (R107): no effect. It is never pending, so nothing completes. -/
def execNop (s : State) : Host.Outcome State Fault Refusal := .next s

/-- `ExecIllegal` (R108), the completion of an illegal command word; no row of the opcode table stands for it. -/
def execIllegal (s : State) : Host.Outcome State Fault Refusal := .next (fail s { code := .illegalCommand })

end Sys2Proof.Machine
end

