-- ==== Sys2Proof/Machine/Dispatch.lean ====
section
/-! DEFINITION. The meaning of every instruction, one arm for each constructor of `Instr`. -/

namespace Sys2Proof.Machine

def exec (i : Instr) (s : State) : Host.Outcome State Fault Refusal :=
  match i with
  | .nop => Sys2Proof.Machine.execNop s
  | .encode => Sys2Proof.Machine.execEncode s
  | .decode => Sys2Proof.Machine.execDecode s
  | .configure => Sys2Proof.Machine.execConfigure s
  | .rd off size => Sys2Proof.Machine.execRd off size s
  | .wr off data size => Sys2Proof.Machine.execWr off data size s

end Sys2Proof.Machine
end

