-- ==== Sys2Proof/Machine/Engine.lean ====
section
/-! DEFINITION. The two agents of the block (10_state.md R20): which instruction an event runs, the engine's
completion step (40_command_interface.md R106), and the placing of an encoded instruction as the next event. -/

namespace Sys2Proof.Machine

/-- The engine's turn (R106): the completion step of the pending command. With no command pending the engine has no
enabled step, and its turn is that of a `NOP`. -/
def engineTurn (s : State) : Host.Outcome State Fault Refusal :=
  match s.pend with
  | Option.none => exec .nop s
  | some Command.encode => exec .encode s
  | some Command.decode => exec .decode s
  | some Command.configure => exec .configure s
  | some Command.illegal => execIllegal s

/-- One event (R60). A bus transaction whose address lies outside the window is not the block's (R68) and changes
nothing here. -/
def runEvent (e : Event) (s : State) : Host.Outcome State Fault Refusal :=
  match e with
  | .hop w => exec (decodeHop w) s
  | .bus t =>
    match t.instr s.params with
    | some i => exec i s
    | Option.none => .next s
  | .engine => engineTurn s
  | .reset => .next s.resetBlock

/-- The block without a pending command, ready to accept one (R207). -/
def State.idle (s : State) : State := { s with pend := Option.none, status := { s.status with busy := false } }

/-- An encoded instruction placed so that the next event runs it. A command word is accepted by the idle block
(R105), which leaves the command pending and the engine's turn next; a host-operation word is the next transaction. -/
def placeWord (s : State) (nbits w : Nat) : State :=
  if nbits ≤ 32 then { accept s.idle (BitVec.ofNat 32 w) with schedule := .engine :: s.schedule }
  else { s with schedule := .hop (BitVec.ofNat 41 w) :: s.schedule }

end Sys2Proof.Machine
end

