-- ==== Sys2Proof/Machine/Step.lean ====
section
/-! DEFINITION. One step: the next event of the schedule (20_memory.md R60), or the engine's turn when none is left,
which is how a pending command comes to complete under every schedule (40_command_interface.md R106). -/

namespace Sys2Proof.Machine

/-- One step of the block. -/
def step (s : State) : Host.Outcome State Fault Refusal :=
  match s.schedule with
  | [] => engineTurn s
  | e :: rest => runEvent e { s with schedule := rest }

/-- `s` with an encoded instruction placed where the next step takes it from (log entry 2). -/
def State.withFetchWord (s : State) (nbits w : Nat) : State := placeWord s nbits w

end Sys2Proof.Machine
end

