-- ==== Sys2Proof/Safety.lean ====
section
/-! DEFINITION. What counts as a good state of the block, and the terms the claims use: the invariants the spec gives
(10_state.md R42, R48; 60_exceptions.md R200), the registers a host transaction must leave alone (R110), and the closed
forms of the encoded text and the decoded value (42_encode.md R167, R168; 43_decode.md R190). -/

namespace Sys2Proof.Machine

/-! ### The invariants -/

/-- The active configuration is valid (R48): (a) a permutation of `CANON`, (b) the decode table of that permutation,
(c) a salt length that is not 0. -/
structure ConfigurationValid (s : State) : Prop where
  alphabet : isAlphabet s.active.perm = true
  table : s.active.dec = buildDec s.params.checkSet s.active.perm
  saltLen : s.active.saltLen ≠ 0

/-- `BUSY` says that a command is pending (R42), and a pending command has cleared `DONE` and `ERR` (R105). -/
structure SequencingCoherent (s : State) : Prop where
  busy : s.status.busy = s.pend.isSome
  pendingNotDone : s.pend.isSome = true → s.status.done = false
  pendingNoError : s.pend.isSome = true → s.status.err = false

/-- `ERRINFO` holds a report of the table of R200, and `ERR` agrees with it (R204, R205). -/
structure ReportCoherent (s : State) : Prop where
  code : s.errInfo.code ≤ 7
  digitPos : s.errInfo.code = 3 ∨ s.errInfo.code = 4 → s.errInfo.pos ≤ 12
  alphabetPos : s.errInfo.code = 5 → s.errInfo.pos ≤ 31
  noPos : s.errInfo.code ≠ 3 → s.errInfo.code ≠ 4 → s.errInfo.code ≠ 5 → s.errInfo.pos = 0 ∧ s.errInfo.byte = 0
  err : s.status.err = true → s.errInfo.code ≠ 0
  done : s.status.done = true → s.errInfo.code ≠ 0 → s.status.err = true

/-- The output registers hold a text of at most 13 canonical symbols, filled with `0x00` (R32, R33, R86). -/
structure OutputCoherent (s : State) : Prop where
  length : s.outLen ≤ 13
  symbols : ∀ i, i < s.outLen.toNat → isCanon (textByte s.outText i) = true
  fill : ∀ i, s.outLen.toNat ≤ i → i < 16 → textByte s.outText i = 0

/-- The invariant of the block. -/
structure Inv (s : State) : Prop where
  /-- `CHECK_SET` is an admitted value of the parameter (R134). -/
  params : checkSetAdmitted s.params.checkSet = true
  configuration : ConfigurationValid s
  sequencing : SequencingCoherent s
  report : ReportCoherent s
  output : OutputCoherent s

/-! ### Frames -/

/-- The registers only a completion or reset writes (R110). -/
structure SameResults (s t : State) : Prop where
  resLo : t.resLo = s.resLo
  resHi : t.resHi = s.resHi
  outLen : t.outLen = s.outLen
  outText : t.outText = s.outText
  errInfo : t.errInfo = s.errInfo

/-- The registers only the host or reset writes: the RW data registers (R102) and `INTEN`. -/
structure SameHostRegisters (s t : State) : Prop where
  valLo : t.valLo = s.valLo
  valHi : t.valHi = s.valHi
  inLen : t.inLen = s.inLen
  saltLen : t.saltLen = s.saltLen
  inText : t.inText = s.inText
  salt : t.salt = s.salt
  perm : t.perm = s.perm
  doneIe : t.doneIe = s.doneIe

/-- The event the next step takes is the engine's turn. -/
def engineIsNext (s : State) : Prop := s.schedule = [] ∨ s.schedule.head? = some .engine

/-- The event the next step takes is a transaction of the host. -/
def hostIsNext (s : State) : Prop :=
  (∃ w, s.schedule.head? = some (.hop w)) ∨ (∃ t, s.schedule.head? = some (.bus t))

/-- The event the next step takes is reset. -/
def resetIsNext (s : State) : Prop := s.schedule.head? = some .reset

/-- The flags after a successful completion (R204). -/
def doneFlags (s : State) : Status := { busy := false, done := true, err := false, drop := s.status.drop }

/-- The flags after an error completion (R205). -/
def failedFlags (s : State) : Status := { busy := false, done := true, err := true, drop := s.status.drop }

/-! ### Closed forms -/

/-- The number of symbols of an encoded value (R167): 1 for 0, else `ceil(bitlen(v) / 5)`, `bitlen(v) = floor(log2(v)) + 1`. -/
def encodedLength (v : Value) : Nat := if v = 0 then 1 else (Nat.log2 v.toNat + 1 + 4) / 5

/-- True digit `i` of an encoding of `n` symbols (R168): `(v >> (5 * (n - 1 - i))) mod 32`. -/
def trueDigit (v : Value) (n i : Nat) : Digit := BitVec.ofNat 5 (v.toNat / 32 ^ (n - 1 - i))

/-- The coded digit of an entry; the sentinels have none (R88). -/
def codedDigit : DecEntry → Option Digit
  | .digit d => some d
  | .invalid => none
  | .check => none

/-- The coded digit of input byte `i` under a configuration (R184), if it has one. -/
def codedAt (a : Active) (text : Vector Word 4) (i : Nat) : Option Digit := codedDigit (entryAt a.dec (textByte text i))

/-- True digit `i` of an input whose byte `i` is a digit (R187): the coded digit through the keystream. -/
def recoveredDigit (a : Active) (text : Vector Word 4) (i : Nat) : Digit :=
  (codedAt a text i).getD 0 ^^^ a.keystream i

/-- The closed form of a decoded value (R190): the sum of the true digits times their place values, modulo `2^64`. -/
def decodedValue (a : Active) (text : Vector Word 4) (n : Nat) : Value :=
  BitVec.ofNat 64 (∑ i ∈ Finset.range n, (recoveredDigit a text i).toNat * 32 ^ (n - 1 - i))

end Sys2Proof.Machine
end

