-- ==== Sys2Proof/Certificates/Slice0/Obligations.lean ====
section
/-! DEFINITION. The statements of this model, for the provers: each says which rule of the spec it formalises. -/

open Sys2Proof Sys2Proof.Machine

/-! ### Encodings -/

/-- Every well-formed instruction is read back from its own bytes (R82, R91); the six-byte layout of a host-operation word is
the model's (log entry 16). -/
def Obligations.DecodeOfEncode : Prop :=
  ∀ i : Instr, i.WellFormed → decodeBytes (encodeBytes i) = .ok i

/-- Re-encoding a decoded host-operation word gives the word back, with `DATA` cleared for a read (R91; log entry 7
for the `DATA` field of a read). -/
def Obligations.EncodeOfDecodedHop : Prop :=
  ∀ w : Hop, encodeBytes (decodeHop w) =
    bytesOfHop (if hopD w = 1 then w else mkHop 0 (hopOff w) 0)

/-- A host-operation word is decoded by its three fields (R91); that a read's `DATA` is ignored is the model's (log entry 7). -/
def Obligations.HopFieldsSelectOperation : Prop :=
  ∀ (off : BitVec 8) (data : Word),
    decodeHop (1#1 ++ off ++ data) = .wr off data .four ∧ decodeHop (0#1 ++ off ++ data) = .rd off .four

/-- `DecodeCmd` is total and has one word for each command (R82). -/
def Obligations.CommandWordDecoding : Prop :=
  ∀ w : BitVec 32, decodeCmd w =
    if w = 0x00000000 then .nop
    else if w = 0x00000001 then .encode
    else if w = 0x00000002 then .decode
    else if w = 0x00000003 then .configure
    else .illegal

/-- Words written out from the encodings of R81 and R91 decode to the instructions they stand for. -/
def Obligations.SampleWordsDecode : Prop :=
  decodeTableWord 32 0x00000000 = some .nop ∧
  decodeTableWord 32 0x00000001 = some .encode ∧
  decodeTableWord 32 0x00000002 = some .decode ∧
  decodeTableWord 32 0x00000003 = some .configure ∧
  decodeTableWord 32 0x00000010 = none ∧
  decodeTableWord 48 0x04000000000 = some (.rd 0x40 .four) ∧
  decodeTableWord 48 0x114000013F7 = some (.wr 0x14 0x13F7 .four)

/-! ### The step -/

/-- A step runs the instruction of the next event: the one the decoder reads from a host-operation word, the one a bus
transaction in the window is, or the pending command at the engine's turn (R60, R106). The schedule, and a command
constructor meaning its completion, are the model's choice (log entries 1 and 9). -/
def Obligations.StepRunsDecodedInstruction : Prop :=
  (∀ (s : State) (w : Hop) (rest : List Event), s.schedule = .hop w :: rest →
    step s = exec (decodeHop w) { s with schedule := rest }) ∧
  (∀ (s : State) (t : Transaction) (i : Instr) (rest : List Event), s.schedule = .bus t :: rest →
    t.instr s.params = some i → step s = exec i { s with schedule := rest }) ∧
  (∀ s : State, engineIsNext s →
    (s.pend = some .encode → step s = exec .encode { s with schedule := s.schedule.tail }) ∧
    (s.pend = some .decode → step s = exec .decode { s with schedule := s.schedule.tail }) ∧
    (s.pend = some .configure → step s = exec .configure { s with schedule := s.schedule.tail }) ∧
    (s.pend = some .illegal → step s = execIllegal { s with schedule := s.schedule.tail }) ∧
    (s.pend = none → step s = .next { s with schedule := s.schedule.tail }))

/-- A word of the opcode table, placed with `withFetchWord`, is run by the very next step, on the same state with the
placed event taken off. The placing is the model's (log entry 2). -/
def Obligations.FetchedWordRunsNext : Prop :=
  ∀ (s : State) (nbits w : Nat) (i : Instr), decodeTableWord nbits w = some i →
    step (s.withFetchWord nbits w) = exec i { s.withFetchWord nbits w with schedule := s.schedule }

/-- No step faults and none is refused: errors are completions and bus responses, never traps (R206, R209). -/
def Obligations.EveryStepAnswersNext : Prop :=
  ∀ s : State, ∃ t, step s = .next t

/-- A pending command completes under every schedule of events that holds no reset (R106): after some of the scheduled events
it is still pending and the engine is next, and that step is its completion. Under every schedule, one with a reset (which
discards the command, R230) included, nothing stays pending once the schedule is used up. The engine's turn at an empty
schedule is the model's form of weak fairness (log entry 1). -/
def Obligations.PendingCommandCompletes : Prop :=
  (∀ s : State, s.pend.isSome = true → .reset ∉ s.schedule → ∃ (k : Nat) (t u : State),
    k ≤ s.schedule.length ∧ Sys2Proof.core.run k s = .next t ∧ t.pend = s.pend ∧ engineIsNext t ∧
    step t = .next u ∧ u.pend = none ∧ u.status.busy = false ∧ u.status.done = true) ∧
  (∀ s : State, ∃ t : State,
    Sys2Proof.core.run (s.schedule.length + 1) s = .next t ∧ t.pend = none ∧ t.schedule = [])

/-- The engine's completion step (R204, R205): whatever command is pending, it leaves nothing pending, sets `DONE`,
clears `BUSY`, keeps `DROP`, and sets `ERR` exactly when it reports an error code. -/
def Obligations.CompletionReports : Prop :=
  ∀ s : State, s.pend.isSome = true → ∃ t : State, engineTurn s = .next t ∧
    t.pend = none ∧ t.status.busy = false ∧ t.status.done = true ∧ t.status.drop = s.status.drop ∧
    (t.status.err = true ↔ t.errInfo.code ≠ 0) ∧ SameHostRegisters s t

/-- The address map (R68): the window's offset of `BASE + offset` is `offset`, and no other address is the block's (log
entry 11). -/
def Obligations.WindowAddressMap : Prop :=
  (∀ (p : Params) (off : BitVec 8), windowOffset p (p.base + off.toNat) = some off) ∧
  (∀ (p : Params) (addr : Nat), addr < p.base ∨ p.base + 256 ≤ addr → windowOffset p addr = none)

/-! ### Reset and the invariant -/

/-- The reset values (R231): what every register of the window reads as after reset, and the hidden state. -/
def Obligations.ResetValues : Prop :=
  ∀ p : Params,
    (∀ row ∈ ([(0x00, 0x57450007), (0x04, 0), (0x08, 0), (0x0C, 0), (0x10, 0), (0x14, 0), (0x18, 0), (0x1C, 0),
        (0x20, 0), (0x24, 0), (0x28, 0), (0x2C, 1), (0x30, 0), (0x34, 0), (0x38, 0), (0x3C, 0), (0x40, 0), (0x44, 0),
        (0x48, 0), (0x4C, 0), (0x50, 0), (0x54, 0), (0x58, 0), (0x5C, 0), (0x60, 0x33323130), (0x64, 0x37363534),
        (0x68, 0x42413938), (0x6C, 0x46454443), (0x70, 0x4B4A4847), (0x74, 0x51504E4D), (0x78, 0x56545352),
        (0x7C, 0x5A595857)] : List (BitVec 8 × Word)),
      busRead (State.resetWith p) row.1 .four = (row.2, false)) ∧
    (State.resetWith p).active =
      { perm := canon, dec := buildDec p.checkSet canon, salt := Vector.replicate 13 0, saltLen := 1 } ∧
    (State.resetWith p).pend = none ∧ (State.resetWith p).irq = false

/-- Reset is one event that puts the whole block in the reset state and discards a pending command (R230); the port's answer
becomes none (log entry 5). -/
def Obligations.ResetEventGivesResetState : Prop :=
  ∀ (s : State) (rest : List Event), s.schedule = .reset :: rest →
    step s = .next { State.resetWith s.params with schedule := rest }

/-- The invariant holds in the reset state, for every admitted value of the parameters. -/
def Obligations.InvariantAtReset : Prop :=
  ∀ p : Params, checkSetAdmitted p.checkSet = true → Inv (State.resetWith p)

/-- Every step keeps the invariant (R42, R48). -/
def Obligations.StepKeepsInvariant : Prop :=
  ∀ s t : State, Inv s → step s = .next t → Inv t

/-- The parameters are fixed: no step changes `CHECK_SET` or `BASE` (R50; they stand in the state by log entries 3 and 4). -/
def Obligations.StepKeepsParameters : Prop :=
  ∀ s t : State, step s = .next t → t.params = s.params

/-! ### Host transactions -/

/-- The only access the block serves is an aligned 32-bit one, which returns `err = 0`; a transaction of another size or
alignment gets the bus error and changes no state (R61). -/
def Obligations.AccessWidthAndAlignment : Prop :=
  ∀ (s : State) (off : BitVec 8) (data : Word) (size : Size),
    (size ≠ .four ∨ off.toNat % 4 ≠ 0 →
      exec (.rd off size) s = .next { s with response := .read 0 true } ∧
      exec (.wr off data size) s = .next { s with response := .write true }) ∧
    (size = .four → off.toNat % 4 = 0 →
      (∃ t v, exec (.rd off size) s = .next t ∧ t.response = .read v false) ∧
      (∃ t, exec (.wr off data size) s = .next t ∧ t.response = .write false))

/-- What a read returns at every offset, the bus error for an access that is not served, and that it changes nothing but the
port's answer (R100). -/
def Obligations.ReadReturnsRegister : Prop :=
  ∀ s : State,
    (∀ row ∈ ([(0x00, 0x57450007), (0x04, 0),
        (0x08, (BitVec.ofBool s.status.drop ++ BitVec.ofBool s.status.err ++ BitVec.ofBool s.status.done ++
          BitVec.ofBool s.status.busy).setWidth 32),
        (0x0C, (BitVec.ofBool s.doneIe).setWidth 32),
        (0x10, (s.errInfo.byte ++ s.errInfo.pos ++ s.errInfo.code).setWidth 32),
        (0x14, s.valLo), (0x18, s.valHi), (0x1C, s.resLo), (0x20, s.resHi), (0x24, s.inLen),
        (0x28, s.outLen.setWidth 32), (0x2C, s.saltLen),
        (0x30, s.inText[0]), (0x34, s.inText[1]), (0x38, s.inText[2]), (0x3C, s.inText[3]),
        (0x40, s.outText[0]), (0x44, s.outText[1]), (0x48, s.outText[2]), (0x4C, s.outText[3]),
        (0x50, s.salt[0]), (0x54, s.salt[1]), (0x58, s.salt[2]), (0x5C, s.salt[3]),
        (0x60, s.perm[0]), (0x64, s.perm[1]), (0x68, s.perm[2]), (0x6C, s.perm[3]),
        (0x70, s.perm[4]), (0x74, s.perm[5]), (0x78, s.perm[6]), (0x7C, s.perm[7])] : List (BitVec 8 × Word)),
      exec (.rd row.1 .four) s = .next { s with response := .read row.2 false }) ∧
    (∀ off : BitVec 8, 0x80 ≤ off → off.toNat % 4 = 0 →
      exec (.rd off .four) s = .next { s with response := .read 0 false }) ∧
    (∀ (off : BitVec 8) (size : Size), size ≠ .four ∨ off.toNat % 4 ≠ 0 →
      exec (.rd off size) s = .next { s with response := .read 0 true })

/-- Every read, served or not, completes and leaves the whole block as it was; only the port's answer is new (R66). -/
def Obligations.ReadChangesNoState : Prop :=
  ∀ (s : State) (off : BitVec 8) (size : Size), ∃ t : State,
    exec (.rd off size) s = .next t ∧ t = { s with response := t.response } ∧
    ∃ v e, t.response = .read v e ∧ (e = true ↔ size ≠ .four ∨ off.toNat % 4 ≠ 0) ∧ (e = true → v = 0)

/-- A served write to an RW data register of an idle block replaces that register and nothing else (R102). -/
def Obligations.IdleWriteReplacesRegister : Prop :=
  ∀ (s : State) (d : Word), s.pend = none →
    exec (.wr 0x14 d .four) s = .next { s with valLo := d, response := .write false } ∧
    exec (.wr 0x18 d .four) s = .next { s with valHi := d, response := .write false } ∧
    exec (.wr 0x24 d .four) s = .next { s with inLen := d, response := .write false } ∧
    exec (.wr 0x2C d .four) s = .next { s with saltLen := d, response := .write false } ∧
    (∀ k : Fin 4, exec (.wr (0x30 + 4 * BitVec.ofNat 8 k.val) d .four) s =
      .next { s with inText := s.inText.set k d, response := .write false }) ∧
    (∀ k : Fin 4, exec (.wr (0x50 + 4 * BitVec.ofNat 8 k.val) d .four) s =
      .next { s with salt := s.salt.set k d, response := .write false }) ∧
    (∀ k : Fin 8, exec (.wr (0x60 + 4 * BitVec.ofNat 8 k.val) d .four) s =
      .next { s with perm := s.perm.set k d, response := .write false })

/-- While a command is pending a served write to `CTRL` or to an RW data register is dropped and sets `DROP` (R103). -/
def Obligations.BusyWriteIsDropped : Prop :=
  ∀ (s : State) (d : Word), s.pend.isSome = true →
    ∀ off ∈ ([0x04, 0x14, 0x18, 0x24, 0x2C, 0x30, 0x34, 0x38, 0x3C, 0x50, 0x54, 0x58, 0x5C, 0x60, 0x64, 0x68, 0x6C,
        0x70, 0x74, 0x78, 0x7C] : List (BitVec 8)),
      exec (.wr off d .four) s =
        .next { s with status := { s.status with drop := true }, response := .write false }

/-- Writes to `STATUS` and `INTEN` are served in every state, and clearing `DONE` lowers `irq` (R104). -/
def Obligations.StatusAndIntenWrites : Prop :=
  ∀ (s : State) (d : Word),
    exec (.wr 0x08 d .four) s =
      .next { s with
        status := { busy := s.status.busy, err := s.status.err,
                    done := if d.getLsbD 1 then false else s.status.done,
                    drop := if d.getLsbD 3 then false else s.status.drop }
        response := .write false } ∧
    exec (.wr 0x0C d .four) s = .next { s with doneIe := d.getLsbD 0, response := .write false } ∧
    (d.getLsbD 1 = true → ∃ t : State, exec (.wr 0x08 d .four) s = .next t ∧ t.irq = false)

/-- Reserved offsets read 0 and ignore writes, read-only registers ignore writes, in every state, without a bus error and
without `DROP` (R37, and the writes of R38). -/
def Obligations.ReadOnlyWritesIgnored : Prop :=
  ∀ (s : State) (d : Word) (off : BitVec 8), off.toNat % 4 = 0 →
    (off ∈ ([0x00, 0x10, 0x1C, 0x20, 0x28, 0x40, 0x44, 0x48, 0x4C] : List (BitVec 8)) ∨ 0x80 ≤ off →
      exec (.wr off d .four) s = .next { s with response := .write false }) ∧
    (0x80 ≤ off → exec (.rd off .four) s = .next { s with response := .read 0 false })

/-- A command word written to `CTRL` of an idle block (R105): NOP changes nothing, every other word is accepted. -/
def Obligations.CommandAcceptance : Prop :=
  ∀ (s : State) (w : Word), s.pend = none →
    exec (.wr 0x04 w .four) s =
      .next { s with
        pend := if w = 0 then none
                else if w = 1 then some .encode
                else if w = 2 then some .decode
                else if w = 3 then some .configure
                else some .illegal
        status := if w = 0 then s.status else { busy := true, done := false, err := false, drop := s.status.drop }
        response := .write false }

/-- `NOP` has no effect: run as a command it leaves the state, and its word written to `CTRL` changes nothing while the
block is idle and is dropped like any other while it is busy; it is the only word that is not accepted (R107). -/
def Obligations.NopHasNoEffect : Prop :=
  ∀ s : State, exec .nop s = .next s ∧
    (s.pend = none → exec (.wr 0x04 0 .four) s = .next { s with response := .write false }) ∧
    (s.pend.isSome = true → exec (.wr 0x04 0 .four) s =
      .next { s with status := { s.status with drop := true }, response := .write false }) ∧
    (∀ w : Word, s.pend = none → w ≠ 0 → ∃ t : State, exec (.wr 0x04 w .four) s = .next t ∧ t.pend.isSome = true)

/-- Every write of a host completes, whatever its offset, data and size, and leaves the result registers, the active
configuration, the parameters and the schedule as they were (R66, R110). -/
def Obligations.WriteFrame : Prop :=
  ∀ (s : State) (off : BitVec 8) (data : Word) (size : Size), ∃ t : State,
    exec (.wr off data size) s = .next t ∧ SameResults s t ∧ t.active = s.active ∧ t.params = s.params ∧
    t.schedule = s.schedule ∧ (s.pend.isSome = true → t.pend = s.pend ∧ t.status.busy = s.status.busy)

/-- A write of an RW data register of an idle block changes exactly its own four bytes of the window, in little-endian
lanes (R62, R102). -/
def Obligations.WriteChangesOwnBytes : Prop :=
  ∀ (s : State) (off : BitVec 8) (d : Word), s.pend = none →
    off ∈ ([0x14, 0x18, 0x24, 0x2C, 0x30, 0x34, 0x38, 0x3C, 0x50, 0x54, 0x58, 0x5C, 0x60, 0x64, 0x68, 0x6C, 0x70, 0x74,
        0x78, 0x7C] : List (BitVec 8)) →
    ∃ t : State, exec (.wr off d .four) s = .next t ∧
      (∀ k : Nat, k < 4 → windowByte t (off + BitVec.ofNat 8 k) = d.extractLsb' (8 * k) 8) ∧
      (∀ a : BitVec 8, a < off ∨ off + 3 < a → windowByte t a = windowByte s a)

/-- A write followed by a read of the same RW data register returns the written value (R70, R245). -/
def Obligations.WriteThenReadReturnsData : Prop :=
  ∀ (s : State) (off : BitVec 8) (d : Word), s.pend = none →
    off ∈ ([0x14, 0x18, 0x24, 0x2C, 0x30, 0x34, 0x38, 0x3C, 0x50, 0x54, 0x58, 0x5C, 0x60, 0x64, 0x68, 0x6C, 0x70, 0x74,
        0x78, 0x7C] : List (BitVec 8)) →
    ∃ t u : State, exec (.wr off d .four) s = .next t ∧ exec (.rd off .four) t = .next u ∧
      u.response = .read d false

/-- A word other than the four commands, written to `CTRL` of an idle block, is accepted, and its completion reports
`ILLEGAL_COMMAND` and changes nothing else (R108). -/
def Obligations.IllegalWordCompletes : Prop :=
  ∀ (s : State) (w : Word), s.pend = none → w ≠ 0 → w ≠ 1 → w ≠ 2 → w ≠ 3 →
    ∃ t : State, exec (.wr 0x04 w .four) s = .next t ∧ t.pend = some .illegal ∧
      t.status = { busy := true, done := false, err := false, drop := s.status.drop } ∧
      engineTurn t = .next { s with
        status := failedFlags s, errInfo := { code := 7, pos := 0, byte := 0 }, response := .write false }

/-- The interrupt output (R210, R211): the AND of `DONE` and its enable; it follows an `INTEN` write at once, which leaves
`DONE`; it falls when `DONE` is cleared or a command is accepted; a `NOP` leaves it; and every completion sets `DONE`. -/
def Obligations.InterruptOutput : Prop :=
  (∀ s : State, s.irq = true ↔ s.status.done = true ∧ s.doneIe = true) ∧
  (∀ (s : State) (d : Word), ∃ t, exec (.wr 0x0C d .four) s = .next t ∧
    t.irq = (s.status.done && d.getLsbD 0) ∧ t.status.done = s.status.done) ∧
  (∀ (s : State) (d : Word), d.getLsbD 1 = true →
    ∃ t, exec (.wr 0x08 d .four) s = .next t ∧ t.irq = false ∧ t.status.done = false) ∧
  (∀ (s : State) (w : Word), s.pend = none → w ≠ 0 →
    ∃ t, exec (.wr 0x04 w .four) s = .next t ∧ t.irq = false ∧ t.status.done = false) ∧
  (∀ s : State, s.pend = none → ∃ t, exec (.wr 0x04 0 .four) s = .next t ∧ t.irq = s.irq) ∧
  (∀ s : State, s.pend.isSome = true → ∃ t, engineTurn s = .next t ∧ t.status.done = true ∧ t.irq = s.doneIe)

/-! ### Whole-machine rules -/

/-- No transaction of the host changes a result register: between acceptance and completion they keep what the previous
completion or reset left (R110). -/
def Obligations.HostEventsKeepResults : Prop :=
  ∀ s t : State, hostIsNext s → step s = .next t → SameResults s t

/-- The active configuration changes only at a successful completion of CONFIGURE and at reset (R44, R46, R47). -/
def Obligations.OnlyConfigureChangesConfiguration : Prop :=
  ∀ s t : State, step s = .next t → t.active ≠ s.active →
    (engineIsNext s ∧ s.pend = some .configure ∧ t.status.err = false) ∨ resetIsNext s

/-- `RES_LO` and `RES_HI` change only at the completion of a DECODE and at reset (R29); `OUT_LEN` and `OUT_TEXT` only at the
completion of an ENCODE and at reset (R32, R33). -/
def Obligations.OnlyOwnCompletionWritesResults : Prop :=
  ∀ s t : State, step s = .next t → ¬ resetIsNext s →
    ((t.resLo ≠ s.resLo ∨ t.resHi ≠ s.resHi) → engineIsNext s ∧ s.pend = some .decode) ∧
    ((t.outLen ≠ s.outLen ∨ t.outText ≠ s.outText) → engineIsNext s ∧ s.pend = some .encode)

/-- While a command is pending, no event but reset changes an operand of it (R103): the RW data registers and the active
configuration keep their values in every step that is not its completion. -/
def Obligations.PendingOperandsStable : Prop :=
  ∀ s t : State, s.pend.isSome = true → hostIsNext s → step s = .next t →
    t.pend = s.pend ∧ t.active = s.active ∧ t.valLo = s.valLo ∧ t.valHi = s.valHi ∧ t.inLen = s.inLen ∧
    t.saltLen = s.saltLen ∧ t.inText = s.inText ∧ t.salt = s.salt ∧ t.perm = s.perm

/-! ### The keystream and the tables -/

/-- Keystream properties (R144): (a) the transform is its own inverse; (b) only bits [4:0] of the salt bytes matter;
(c) a salt whose bytes all have bits [4:0] = 0 gives the all-zero keystream. -/
def Obligations.KeystreamProperties : Prop :=
  (∀ (a : Active) (j : Nat) (d : Digit), (d ^^^ a.keystream j) ^^^ a.keystream j = d) ∧
  (∀ (a b : Active), a.saltLen ≠ 0 →
    (∀ i : Fin 13, i.val < a.saltLen.toNat → a.salt[i].extractLsb' 0 5 = b.salt[i].extractLsb' 0 5) →
    (a.saltLen = b.saltLen ∨ (13 ≤ a.saltLen ∧ 13 ≤ b.saltLen)) → ∀ j, j < 13 → a.keystream j = b.keystream j) ∧
  (∀ a : Active, a.saltLen ≠ 0 → (∀ i : Fin 13, i.val < a.saltLen.toNat → a.salt[i].extractLsb' 0 5 = 0) →
    ∀ j, j < 13 → a.keystream j = 0)

/-- Thirteen stored salt bytes suffice (R142, R143): a draw of index 0 to 12 reads the salt byte of index
`j mod A.SALT_LEN`, which is below 13 and below the salt length, and for a length of 13 or more it is byte `j`. -/
def Obligations.KeystreamReadsStoredSalt : Prop :=
  ∀ (a : Active) (j : Nat) (_ : j < 13), a.saltLen ≠ 0 →
    (∃ h : j % a.saltLen.toNat < 13, j % a.saltLen.toNat < a.saltLen.toNat ∧
      a.keystream j = a.salt[j % a.saltLen.toNat].extractLsb' 0 5) ∧
    (13 ≤ a.saltLen → a.keystream j = a.salt[j].extractLsb' 0 5)

/-- The canonical symbols (R131). -/
def Obligations.CanonicalSymbols : Prop :=
  ∀ c : Byte, isCanon c = true ↔
    (0x30 ≤ c ∧ c ≤ 0x39) ∨ (0x41 ≤ c ∧ c ≤ 0x48) ∨ c = 0x4A ∨ c = 0x4B ∨ c = 0x4D ∨ c = 0x4E ∨
    (0x50 ≤ c ∧ c ≤ 0x54) ∨ (0x56 ≤ c ∧ c ≤ 0x5A)

/-- The decode table of an alphabet (R136, R137): a byte is a digit exactly when its glyph stands in the alphabet, and then
it is that symbol's coded digit; every other byte is `CHECK` if it is in `CHECK_SET` and `INVALID` if not. -/
def Obligations.DecodeTableEntries : Prop :=
  ∀ (cs : List Byte) (a : Active), checkSetAdmitted cs = true → isAlphabet a.perm = true → ∀ b : Byte,
    (∀ d : Digit, entryAt (buildDec cs a.perm) b = .digit d ↔ a.symbol d = glyph b) ∧
    (isDigitByte b = true ↔ ∃ d, entryAt (buildDec cs a.perm) b = .digit d) ∧
    (isDigitByte b = false → entryAt (buildDec cs a.perm) b = if b ∈ cs then .check else .invalid)

/-- The equivalence of R137: a digit byte of `D0` has under alphabet `P` the index of its canonical symbol in `P`, and
every other byte keeps its entry of `D0`. -/
def Obligations.DecodeTableFromCanonical : Prop :=
  ∀ (cs : List Byte) (p : Vector Byte 32), checkSetAdmitted cs = true → isAlphabet p = true → ∀ b : Byte,
    (∀ k : Fin 32, entryAt (buildDec cs canon) b = .digit (BitVec.ofNat 5 k.val) →
      ∃! i : Fin 32, p[i] = canon[k] ∧ entryAt (buildDec cs p) b = .digit (BitVec.ofNat 5 i.val)) ∧
    ((∀ k : Digit, entryAt (buildDec cs canon) b ≠ .digit k) → entryAt (buildDec cs p) b = entryAt (buildDec cs canon) b)

/-- The look-alikes follow the glyph (R136): under every alphabet 'O' and 'o' decode as '0' does, 'I', 'i', 'L' and 'l' as '1'
does, and every other byte is a digit exactly when its uppercase form stands in the alphabet, at that place. -/
def Obligations.LookAlikesFollowGlyph : Prop :=
  ∀ (cs : List Byte) (p : Vector Byte 32), checkSetAdmitted cs = true → isAlphabet p = true →
    (∀ b ∈ ([0x4F, 0x6F] : List Byte), entryAt (buildDec cs p) b = entryAt (buildDec cs p) 0x30) ∧
    (∀ b ∈ ([0x49, 0x69, 0x4C, 0x6C] : List Byte), entryAt (buildDec cs p) b = entryAt (buildDec cs p) 0x31) ∧
    (∀ i : Fin 32, p[i] = 0x30 → entryAt (buildDec cs p) 0x30 = .digit (BitVec.ofNat 5 i.val)) ∧
    (∀ i : Fin 32, p[i] = 0x31 → entryAt (buildDec cs p) 0x31 = .digit (BitVec.ofNat 5 i.val)) ∧
    (∀ b : Byte, b ∉ ([0x4F, 0x6F, 0x49, 0x69, 0x4C, 0x6C] : List Byte) →
      ∀ i : Fin 32, entryAt (buildDec cs p) b = .digit (BitVec.ofNat 5 i.val) ↔ p[i] = upper b)

/-- Byte `i` of a text packed into four registers is byte `i` of the text, `0x00` past its end (R85). -/
def Obligations.PackedTextReadsBack : Prop :=
  ∀ (bs : List Byte) (i : Nat), i < 16 → textByte (packText bs) i = bs.getD i 0

/-! ### CONFIGURE -/

/-- CONFIGURE with a staged alphabet of canonical, pairwise distinct folded bytes and a salt length that is not 0 installs
all four parts of the staged configuration and completes with success (R138, R140). -/
def Obligations.ConfigureInstalls : Prop :=
  ∀ s : State,
    (∀ i, i < 32 → isCanon (upper (textByte s.perm i)) = true) →
    (∀ i j, i < j → j < 32 → upper (textByte s.perm i) ≠ upper (textByte s.perm j)) →
    s.saltLen ≠ 0 →
    ∃ t : State, exec .configure s = .next t ∧
      t = { s with active := t.active, pend := none, status := doneFlags s, errInfo := { code := 0, pos := 0, byte := 0 } } ∧
      (∀ i : Fin 32, t.active.perm[i] = upper (textByte s.perm i.val)) ∧
      t.active.dec = buildDec s.params.checkSet t.active.perm ∧
      (∀ i : Fin 13, t.active.salt[i] = textByte s.salt i.val) ∧
      t.active.saltLen = s.saltLen ∧
      isAlphabet t.active.perm = true

/-- CONFIGURE fails at the first index whose folded byte is not canonical or repeats an earlier one, with that index and the
raw staged byte, and changes no other state, whatever the salt length (R139, R203). -/
def Obligations.ConfigureReportsFirstBadByte : Prop :=
  ∀ (s : State) (i : Nat), s.pend = some .configure → i < 32 →
    (∀ j, j < i → isCanon (upper (textByte s.perm j)) = true ∧
      ∀ k, k < j → upper (textByte s.perm k) ≠ upper (textByte s.perm j)) →
    (isCanon (upper (textByte s.perm i)) = false ∨ ∃ k, k < i ∧ upper (textByte s.perm k) = upper (textByte s.perm i)) →
    exec .configure s = .next { s with
      pend := none, status := failedFlags s,
      errInfo := { code := 5, pos := BitVec.ofNat 8 i, byte := textByte s.perm i } }

/-- CONFIGURE with a good alphabet and `SALT_LEN = 0` fails with `EMPTY_SALT` (R141, R203). -/
def Obligations.ConfigureRejectsEmptySalt : Prop :=
  ∀ s : State, s.pend = some .configure →
    (∀ i, i < 32 → isCanon (upper (textByte s.perm i)) = true) →
    (∀ i j, i < j → j < 32 → upper (textByte s.perm i) ≠ upper (textByte s.perm j)) →
    s.saltLen = 0 →
    exec .configure s = .next { s with
      pend := none, status := failedFlags s, errInfo := { code := 6, pos := 0, byte := 0 } }

/-- The reset staging registers equal the reset active configuration, and a CONFIGURE issued straight after reset (its word
written to `CTRL`, then its completion) succeeds and installs the configuration that is already active (R232). -/
def Obligations.ConfigureAfterResetReinstalls : Prop :=
  ∀ p : Params,
    (∀ i : Fin 32, textByte (State.resetWith p).perm i.val = (State.resetWith p).active.perm[i]) ∧
    (∀ i : Fin 13, textByte (State.resetWith p).salt i.val = (State.resetWith p).active.salt[i]) ∧
    (State.resetWith p).saltLen = (State.resetWith p).active.saltLen ∧
    ∃ t u : State, exec (.wr 0x04 0x3 .four) (State.resetWith p) = .next t ∧ t.pend = some .configure ∧
      engineTurn t = .next u ∧ u.active = (State.resetWith p).active ∧ u.pend = none ∧
      u.status = { busy := false, done := true, err := false, drop := false } ∧
      u.errInfo = { code := 0, pos := 0, byte := 0 }

/-- Running CONFIGURE twice with the same staging is the same as once (R138). -/
def Obligations.ConfigureTwiceIsOnce : Prop :=
  ∀ s : State, s.pend = some .configure → ∃ t u : State, exec .configure s = .next t ∧
    exec .configure { t with pend := some .configure, status := { t.status with busy := true, done := false, err := false } } =
      .next u ∧ u = t

/-! ### ENCODE -/

/-- The length of an encoding (R167). -/
def Obligations.EncodeLength : Prop :=
  ∀ (a : Active) (v : Value),
    (encodeText a v).length = encodedLength v ∧ 1 ≤ encodedLength v ∧ encodedLength v ≤ 13 ∧
    (encodedLength v = 13 ↔ 2 ^ 60 ≤ v.toNat)

/-- ENCODE completes in every state, writes the length and the base-32 digits of the value through the keystream and the
alphabet, most significant first, fills the rest with `0x00`, and changes nothing else but the completion's report
(R160, R166, R168); the leading digit is not 0 unless the value is 0, and at most 15 in a 13-symbol text (R168). -/
def Obligations.EncodeWritesDigits : Prop :=
  ∀ s : State, ∃ t : State, exec .encode s = .next t ∧
    t = { s with outLen := t.outLen, outText := t.outText, pend := none, status := doneFlags s,
                 errInfo := { code := 0, pos := 0, byte := 0 } } ∧
    t.outLen = BitVec.ofNat 4 (encodedLength s.value) ∧
    (∀ i, i < encodedLength s.value → textByte t.outText i =
      s.active.symbol (trueDigit s.value (encodedLength s.value) i ^^^ s.active.keystream i)) ∧
    (∀ i, encodedLength s.value ≤ i → i < 16 → textByte t.outText i = 0) ∧
    (s.value ≠ 0 → trueDigit s.value (encodedLength s.value) 0 ≠ 0) ∧
    (encodedLength s.value = 13 → trueDigit s.value (encodedLength s.value) 0 ≤ 15)

/-- The skip loop (R163): for a value without a leading group, at most 11 shifts bring a set bit into the top quintet. -/
def Obligations.SkipLoopEnds : Prop :=
  ∀ v : Value, v ≠ 0 → v.extractLsb' 60 4 = 0#4 →
    topQuintet (skipLeading 11 (loadMarked 0x8 v)) ≠ 0 ∧
    ∃ k, k ≤ 11 ∧ skipLeading 11 (loadMarked 0x8 v) = (v <<< 4 ||| 0x8) <<< (5 * k)

/-- The stop-marker pattern is not observable (R169): every non-zero pattern gives the same output. -/
def Obligations.MarkerIndependence : Prop :=
  ∀ (m : BitVec 4) (a : Active) (v : Value), m ≠ 0 → encodeWith m a v = encodeText a v

/-- ENCODE's output is a function of `VALUE`, `A.PERM`, `A.SALT` and `A.SALT_LEN` only (R170). -/
def Obligations.EncodeDependsOnOperandsOnly : Prop :=
  ∀ s₁ s₂ : State, s₁.valLo = s₂.valLo → s₁.valHi = s₂.valHi → s₁.active.perm = s₂.active.perm →
    s₁.active.salt = s₂.active.salt → s₁.active.saltLen = s₂.active.saltLen →
    ∃ t₁ t₂ : State, exec .encode s₁ = .next t₁ ∧ exec .encode s₂ = .next t₂ ∧
      t₁.outLen = t₂.outLen ∧ t₁.outText = t₂.outText

/-! ### DECODE -/

/-- An empty input fails with `EMPTY_INPUT`, and the result registers are written 0 (R182, R188). -/
def Obligations.DecodeRejectsEmptyInput : Prop :=
  ∀ s : State, s.pend = some .decode → s.inLen = 0 →
    exec .decode s = .next { s with
      resLo := 0, resHi := 0, pend := none, status := failedFlags s, errInfo := { code := 1, pos := 0, byte := 0 } }

/-- An input of 14 bytes or more fails with `OUT_OF_RANGE`, whatever its bytes, and the result registers are written 0
(R183, R188). -/
def Obligations.DecodeRejectsLongInput : Prop :=
  ∀ s : State, s.pend = some .decode → 14 ≤ s.inLen.toNat →
    exec .decode s = .next { s with
      resLo := 0, resHi := 0, pend := none, status := failedFlags s, errInfo := { code := 2, pos := 0, byte := 0 } }

/-- The first byte that is no digit ends DECODE, with its position and raw byte, as `INVALID_DIGIT` or
`CHECK_DIGIT_UNSUPPORTED` by its entry, and the result registers are written 0 (R181, R185, R186, R188). -/
def Obligations.DecodeReportsFirstBadByte : Prop :=
  ∀ (s : State) (i : Nat), s.pend = some .decode → i < s.inLen.toNat → s.inLen.toNat ≤ 13 →
    (∀ j, j < i → (codedAt s.active s.inText j).isSome = true) →
    (entryAt s.active.dec (textByte s.inText i) = .invalid →
      exec .decode s = .next { s with
        resLo := 0, resHi := 0, pend := none, status := failedFlags s,
        errInfo := { code := 3, pos := BitVec.ofNat 8 i, byte := textByte s.inText i } }) ∧
    (entryAt s.active.dec (textByte s.inText i) = .check →
      exec .decode s = .next { s with
        resLo := 0, resHi := 0, pend := none, status := failedFlags s,
        errInfo := { code := 4, pos := BitVec.ofNat 8 i, byte := textByte s.inText i } })

/-- DECODE of 1 to 13 digit bytes completes with the sum of its true digits times their place values, modulo `2^64`, in the
result registers, and changes nothing else but the completion's report (R180, R188, R190). -/
def Obligations.DecodeWritesValue : Prop :=
  ∀ s : State, 1 ≤ s.inLen.toNat → s.inLen.toNat ≤ 13 →
    (∀ j, j < s.inLen.toNat → (codedAt s.active s.inText j).isSome = true) →
    exec .decode s = .next { s with
      resLo := (decodedValue s.active s.inText s.inLen.toNat).extractLsb' 0 32
      resHi := (decodedValue s.active s.inText s.inLen.toNat).extractLsb' 32 32
      pend := none, status := doneFlags s, errInfo := { code := 0, pos := 0, byte := 0 } }

/-- DECODE reads no byte at or past the length, none of bytes 13 to 15, and no part of the active configuration but the
table and the keystream (R192). -/
def Obligations.DecodeReadsInputBytesOnly : Prop :=
  ∀ (a b : Active) (len : Word) (x y : Vector Word 4), a.dec = b.dec → a.salt = b.salt → a.saltLen = b.saltLen →
    (∀ i, i < len.toNat → i < 13 → textByte x i = textByte y i) → decodeText a len x = decodeText b len y

/-- DECODE accepts inputs ENCODE never produces (R191). From every state whose input is 1 to 13 digit bytes it completes
without error, and: (a) leading symbols whose true digit is 0 are accepted and leave the result that of the rest; (b) in a
13-symbol text the first true digit, 16 or more included, contributes `(d_0 mod 16) * 2^60` after wrapping; and no text of 12
or fewer symbols wraps. -/
def Obligations.DecodeAcceptsNonMinimal : Prop :=
  ∀ s : State, 1 ≤ s.inLen.toNat → s.inLen.toNat ≤ 13 →
    (∀ j, j < s.inLen.toNat → (codedAt s.active s.inText j).isSome = true) →
    ∃ t : State, exec .decode s = .next t ∧
      t.pend = none ∧ t.status = doneFlags s ∧ t.errInfo = { code := 0, pos := 0, byte := 0 } ∧
      (∀ z, z < s.inLen.toNat → (∀ i, i < z → recoveredDigit s.active s.inText i = 0) →
        t.result = BitVec.ofNat 64 (∑ i ∈ Finset.range (s.inLen.toNat - z),
          (recoveredDigit s.active s.inText (z + i)).toNat * 32 ^ (s.inLen.toNat - z - 1 - i))) ∧
      (s.inLen.toNat = 13 →
        t.result = BitVec.ofNat 64 (((recoveredDigit s.active s.inText 0).toNat % 16) * 2 ^ 60 +
          ∑ i ∈ Finset.range 12, (recoveredDigit s.active s.inText (i + 1)).toNat * 32 ^ (11 - i))) ∧
      (s.inLen.toNat ≤ 12 → t.result.toNat < 2 ^ 60 ∧
        t.result.toNat = ∑ i ∈ Finset.range s.inLen.toNat,
          (recoveredDigit s.active s.inText i).toNat * 32 ^ (s.inLen.toNat - 1 - i))

/-- Round trip (R171): under every admitted `CHECK_SET` and every valid active configuration (R48), DECODE of ENCODE's output
under the same active configuration gives the value back, without error. -/
def Obligations.DecodeOfEncodedText : Prop :=
  ∀ s : State, checkSetAdmitted s.params.checkSet = true → ConfigurationValid s → ∃ t u : State, exec .encode s = .next t ∧
    exec .decode { t with
      inLen := t.outLen.setWidth 32, inText := t.outText, pend := some .decode,
      status := { t.status with busy := true, done := false, err := false } } = .next u ∧
    u.result = s.value ∧ u.status.err = false ∧ u.errInfo = { code := 0, pos := 0, byte := 0 }
end

