-- ==== Sys2Proof/Laws/Alphabet.lean ====
section
/-! SUPPORT. Decode tables (41_configure.md R137): what a lookup after one table write answers, and what registering one
symbol changes. -/

namespace Sys2Proof.Machine

/-- A lookup after a table write: the new entry at its byte, the old one elsewhere. -/
theorem entryAt_setEntry (t : Vector DecEntry 256) (b c : Byte) (e : DecEntry) :
    entryAt (setEntry t b e) c = if b = c then e else entryAt t c := by
  unfold entryAt setEntry
  rw [Vector.getElem_set]
  simp only [BitVec.toNat_inj]

/-- A byte that registering a symbol does not write keeps its entry. -/
theorem entryAt_registerSymbol_of_ne (t : Vector DecEntry 256) (c b : Byte) (d : Digit) (hc : c ≠ b)
    (hl : lower c ≠ b) (h0 : c = 0x30#8 → 0x4F#8 ≠ b ∧ 0x6F#8 ≠ b)
    (h1 : c = 0x31#8 → 0x49#8 ≠ b ∧ 0x69#8 ≠ b ∧ 0x4C#8 ≠ b ∧ 0x6C#8 ≠ b) :
    entryAt (registerSymbol t c d) b = entryAt t b := by
  unfold registerSymbol
  by_cases e0 : c = 0x30#8
  · obtain ⟨ho, ho'⟩ := h0 e0
    subst e0
    simp [entryAt_setEntry, hc, hl, ho, ho']
  · by_cases e1 : c = 0x31#8
    · obtain ⟨g1, g2, g3, g4⟩ := h1 e1
      subst e1
      simp [entryAt_setEntry, hc, hl, g1, g2, g3, g4]
    · simp [entryAt_setEntry, hc, hl, e0, e1]

end Sys2Proof.Machine
end

