-- ==== Sys2Proof/Laws/State.lean ====
section
/-! SUPPORT. One lemma for each field and each named update of the state, so that no proof unfolds a record update; and the
same for the flags. -/

namespace Sys2Proof.Machine

section
variable (s : State)

/-! ### respond -/

@[simp] theorem State.respond_status (r : Response) : (s.respond r).status = s.status := rfl
@[simp] theorem State.respond_doneIe (r : Response) : (s.respond r).doneIe = s.doneIe := rfl
@[simp] theorem State.respond_errInfo (r : Response) : (s.respond r).errInfo = s.errInfo := rfl
@[simp] theorem State.respond_valLo (r : Response) : (s.respond r).valLo = s.valLo := rfl
@[simp] theorem State.respond_valHi (r : Response) : (s.respond r).valHi = s.valHi := rfl
@[simp] theorem State.respond_resLo (r : Response) : (s.respond r).resLo = s.resLo := rfl
@[simp] theorem State.respond_resHi (r : Response) : (s.respond r).resHi = s.resHi := rfl
@[simp] theorem State.respond_inLen (r : Response) : (s.respond r).inLen = s.inLen := rfl
@[simp] theorem State.respond_outLen (r : Response) : (s.respond r).outLen = s.outLen := rfl
@[simp] theorem State.respond_saltLen (r : Response) : (s.respond r).saltLen = s.saltLen := rfl
@[simp] theorem State.respond_inText (r : Response) : (s.respond r).inText = s.inText := rfl
@[simp] theorem State.respond_outText (r : Response) : (s.respond r).outText = s.outText := rfl
@[simp] theorem State.respond_salt (r : Response) : (s.respond r).salt = s.salt := rfl
@[simp] theorem State.respond_perm (r : Response) : (s.respond r).perm = s.perm := rfl
@[simp] theorem State.respond_active (r : Response) : (s.respond r).active = s.active := rfl
@[simp] theorem State.respond_pend (r : Response) : (s.respond r).pend = s.pend := rfl
@[simp] theorem State.respond_params (r : Response) : (s.respond r).params = s.params := rfl
@[simp] theorem State.respond_response (r : Response) : (s.respond r).response = r := rfl
@[simp] theorem State.respond_schedule (r : Response) : (s.respond r).schedule = s.schedule := rfl

/-! ### markDropped -/

@[simp] theorem State.markDropped_status : (s.markDropped).status = s.status.dropped := rfl
@[simp] theorem State.markDropped_doneIe : (s.markDropped).doneIe = s.doneIe := rfl
@[simp] theorem State.markDropped_errInfo : (s.markDropped).errInfo = s.errInfo := rfl
@[simp] theorem State.markDropped_valLo : (s.markDropped).valLo = s.valLo := rfl
@[simp] theorem State.markDropped_valHi : (s.markDropped).valHi = s.valHi := rfl
@[simp] theorem State.markDropped_resLo : (s.markDropped).resLo = s.resLo := rfl
@[simp] theorem State.markDropped_resHi : (s.markDropped).resHi = s.resHi := rfl
@[simp] theorem State.markDropped_inLen : (s.markDropped).inLen = s.inLen := rfl
@[simp] theorem State.markDropped_outLen : (s.markDropped).outLen = s.outLen := rfl
@[simp] theorem State.markDropped_saltLen : (s.markDropped).saltLen = s.saltLen := rfl
@[simp] theorem State.markDropped_inText : (s.markDropped).inText = s.inText := rfl
@[simp] theorem State.markDropped_outText : (s.markDropped).outText = s.outText := rfl
@[simp] theorem State.markDropped_salt : (s.markDropped).salt = s.salt := rfl
@[simp] theorem State.markDropped_perm : (s.markDropped).perm = s.perm := rfl
@[simp] theorem State.markDropped_active : (s.markDropped).active = s.active := rfl
@[simp] theorem State.markDropped_pend : (s.markDropped).pend = s.pend := rfl
@[simp] theorem State.markDropped_params : (s.markDropped).params = s.params := rfl
@[simp] theorem State.markDropped_response : (s.markDropped).response = s.response := rfl
@[simp] theorem State.markDropped_schedule : (s.markDropped).schedule = s.schedule := rfl

/-! ### start -/

@[simp] theorem State.start_status (c : Command) : (s.start c).status = s.status.accepted := rfl
@[simp] theorem State.start_doneIe (c : Command) : (s.start c).doneIe = s.doneIe := rfl
@[simp] theorem State.start_errInfo (c : Command) : (s.start c).errInfo = s.errInfo := rfl
@[simp] theorem State.start_valLo (c : Command) : (s.start c).valLo = s.valLo := rfl
@[simp] theorem State.start_valHi (c : Command) : (s.start c).valHi = s.valHi := rfl
@[simp] theorem State.start_resLo (c : Command) : (s.start c).resLo = s.resLo := rfl
@[simp] theorem State.start_resHi (c : Command) : (s.start c).resHi = s.resHi := rfl
@[simp] theorem State.start_inLen (c : Command) : (s.start c).inLen = s.inLen := rfl
@[simp] theorem State.start_outLen (c : Command) : (s.start c).outLen = s.outLen := rfl
@[simp] theorem State.start_saltLen (c : Command) : (s.start c).saltLen = s.saltLen := rfl
@[simp] theorem State.start_inText (c : Command) : (s.start c).inText = s.inText := rfl
@[simp] theorem State.start_outText (c : Command) : (s.start c).outText = s.outText := rfl
@[simp] theorem State.start_salt (c : Command) : (s.start c).salt = s.salt := rfl
@[simp] theorem State.start_perm (c : Command) : (s.start c).perm = s.perm := rfl
@[simp] theorem State.start_active (c : Command) : (s.start c).active = s.active := rfl
@[simp] theorem State.start_pend (c : Command) : (s.start c).pend = some c := rfl
@[simp] theorem State.start_params (c : Command) : (s.start c).params = s.params := rfl
@[simp] theorem State.start_response (c : Command) : (s.start c).response = s.response := rfl
@[simp] theorem State.start_schedule (c : Command) : (s.start c).schedule = s.schedule := rfl

/-! ### complete -/

@[simp] theorem complete_status : (complete s).status = s.status.completed false := rfl
@[simp] theorem complete_doneIe : (complete s).doneIe = s.doneIe := rfl
@[simp] theorem complete_errInfo : (complete s).errInfo = ErrInfo.none := rfl
@[simp] theorem complete_valLo : (complete s).valLo = s.valLo := rfl
@[simp] theorem complete_valHi : (complete s).valHi = s.valHi := rfl
@[simp] theorem complete_resLo : (complete s).resLo = s.resLo := rfl
@[simp] theorem complete_resHi : (complete s).resHi = s.resHi := rfl
@[simp] theorem complete_inLen : (complete s).inLen = s.inLen := rfl
@[simp] theorem complete_outLen : (complete s).outLen = s.outLen := rfl
@[simp] theorem complete_saltLen : (complete s).saltLen = s.saltLen := rfl
@[simp] theorem complete_inText : (complete s).inText = s.inText := rfl
@[simp] theorem complete_outText : (complete s).outText = s.outText := rfl
@[simp] theorem complete_salt : (complete s).salt = s.salt := rfl
@[simp] theorem complete_perm : (complete s).perm = s.perm := rfl
@[simp] theorem complete_active : (complete s).active = s.active := rfl
@[simp] theorem complete_pend : (complete s).pend = Option.none := rfl
@[simp] theorem complete_params : (complete s).params = s.params := rfl
@[simp] theorem complete_response : (complete s).response = s.response := rfl
@[simp] theorem complete_schedule : (complete s).schedule = s.schedule := rfl

/-! ### fail -/

@[simp] theorem fail_status (f : Failure) : (fail s f).status = s.status.completed true := rfl
@[simp] theorem fail_doneIe (f : Failure) : (fail s f).doneIe = s.doneIe := rfl
@[simp] theorem fail_errInfo (f : Failure) : (fail s f).errInfo = f.info := rfl
@[simp] theorem fail_valLo (f : Failure) : (fail s f).valLo = s.valLo := rfl
@[simp] theorem fail_valHi (f : Failure) : (fail s f).valHi = s.valHi := rfl
@[simp] theorem fail_resLo (f : Failure) : (fail s f).resLo = if s.pend = some Command.decode then 0 else s.resLo := rfl
@[simp] theorem fail_resHi (f : Failure) : (fail s f).resHi = if s.pend = some Command.decode then 0 else s.resHi := rfl
@[simp] theorem fail_inLen (f : Failure) : (fail s f).inLen = s.inLen := rfl
@[simp] theorem fail_outLen (f : Failure) : (fail s f).outLen = s.outLen := rfl
@[simp] theorem fail_saltLen (f : Failure) : (fail s f).saltLen = s.saltLen := rfl
@[simp] theorem fail_inText (f : Failure) : (fail s f).inText = s.inText := rfl
@[simp] theorem fail_outText (f : Failure) : (fail s f).outText = s.outText := rfl
@[simp] theorem fail_salt (f : Failure) : (fail s f).salt = s.salt := rfl
@[simp] theorem fail_perm (f : Failure) : (fail s f).perm = s.perm := rfl
@[simp] theorem fail_active (f : Failure) : (fail s f).active = s.active := rfl
@[simp] theorem fail_pend (f : Failure) : (fail s f).pend = Option.none := rfl
@[simp] theorem fail_params (f : Failure) : (fail s f).params = s.params := rfl
@[simp] theorem fail_response (f : Failure) : (fail s f).response = s.response := rfl
@[simp] theorem fail_schedule (f : Failure) : (fail s f).schedule = s.schedule := rfl

/-! ### install -/

@[simp] theorem State.install_status (a : Active) : (s.install a).status = s.status := rfl
@[simp] theorem State.install_doneIe (a : Active) : (s.install a).doneIe = s.doneIe := rfl
@[simp] theorem State.install_errInfo (a : Active) : (s.install a).errInfo = s.errInfo := rfl
@[simp] theorem State.install_valLo (a : Active) : (s.install a).valLo = s.valLo := rfl
@[simp] theorem State.install_valHi (a : Active) : (s.install a).valHi = s.valHi := rfl
@[simp] theorem State.install_resLo (a : Active) : (s.install a).resLo = s.resLo := rfl
@[simp] theorem State.install_resHi (a : Active) : (s.install a).resHi = s.resHi := rfl
@[simp] theorem State.install_inLen (a : Active) : (s.install a).inLen = s.inLen := rfl
@[simp] theorem State.install_outLen (a : Active) : (s.install a).outLen = s.outLen := rfl
@[simp] theorem State.install_saltLen (a : Active) : (s.install a).saltLen = s.saltLen := rfl
@[simp] theorem State.install_inText (a : Active) : (s.install a).inText = s.inText := rfl
@[simp] theorem State.install_outText (a : Active) : (s.install a).outText = s.outText := rfl
@[simp] theorem State.install_salt (a : Active) : (s.install a).salt = s.salt := rfl
@[simp] theorem State.install_perm (a : Active) : (s.install a).perm = s.perm := rfl
@[simp] theorem State.install_active (a : Active) : (s.install a).active = a := rfl
@[simp] theorem State.install_pend (a : Active) : (s.install a).pend = s.pend := rfl
@[simp] theorem State.install_params (a : Active) : (s.install a).params = s.params := rfl
@[simp] theorem State.install_response (a : Active) : (s.install a).response = s.response := rfl
@[simp] theorem State.install_schedule (a : Active) : (s.install a).schedule = s.schedule := rfl

/-! ### setOutput -/

@[simp] theorem State.setOutput_status (out : List Byte) : (s.setOutput out).status = s.status := rfl
@[simp] theorem State.setOutput_doneIe (out : List Byte) : (s.setOutput out).doneIe = s.doneIe := rfl
@[simp] theorem State.setOutput_errInfo (out : List Byte) : (s.setOutput out).errInfo = s.errInfo := rfl
@[simp] theorem State.setOutput_valLo (out : List Byte) : (s.setOutput out).valLo = s.valLo := rfl
@[simp] theorem State.setOutput_valHi (out : List Byte) : (s.setOutput out).valHi = s.valHi := rfl
@[simp] theorem State.setOutput_resLo (out : List Byte) : (s.setOutput out).resLo = s.resLo := rfl
@[simp] theorem State.setOutput_resHi (out : List Byte) : (s.setOutput out).resHi = s.resHi := rfl
@[simp] theorem State.setOutput_inLen (out : List Byte) : (s.setOutput out).inLen = s.inLen := rfl
@[simp] theorem State.setOutput_outLen (out : List Byte) : (s.setOutput out).outLen = BitVec.ofNat 4 out.length := rfl
@[simp] theorem State.setOutput_saltLen (out : List Byte) : (s.setOutput out).saltLen = s.saltLen := rfl
@[simp] theorem State.setOutput_inText (out : List Byte) : (s.setOutput out).inText = s.inText := rfl
@[simp] theorem State.setOutput_outText (out : List Byte) : (s.setOutput out).outText = packText out := rfl
@[simp] theorem State.setOutput_salt (out : List Byte) : (s.setOutput out).salt = s.salt := rfl
@[simp] theorem State.setOutput_perm (out : List Byte) : (s.setOutput out).perm = s.perm := rfl
@[simp] theorem State.setOutput_active (out : List Byte) : (s.setOutput out).active = s.active := rfl
@[simp] theorem State.setOutput_pend (out : List Byte) : (s.setOutput out).pend = s.pend := rfl
@[simp] theorem State.setOutput_params (out : List Byte) : (s.setOutput out).params = s.params := rfl
@[simp] theorem State.setOutput_response (out : List Byte) : (s.setOutput out).response = s.response := rfl
@[simp] theorem State.setOutput_schedule (out : List Byte) : (s.setOutput out).schedule = s.schedule := rfl

/-! ### setResult -/

@[simp] theorem State.setResult_status (v : Value) : (s.setResult v).status = s.status := rfl
@[simp] theorem State.setResult_doneIe (v : Value) : (s.setResult v).doneIe = s.doneIe := rfl
@[simp] theorem State.setResult_errInfo (v : Value) : (s.setResult v).errInfo = s.errInfo := rfl
@[simp] theorem State.setResult_valLo (v : Value) : (s.setResult v).valLo = s.valLo := rfl
@[simp] theorem State.setResult_valHi (v : Value) : (s.setResult v).valHi = s.valHi := rfl
@[simp] theorem State.setResult_resLo (v : Value) : (s.setResult v).resLo = lowHalf v := rfl
@[simp] theorem State.setResult_resHi (v : Value) : (s.setResult v).resHi = highHalf v := rfl
@[simp] theorem State.setResult_inLen (v : Value) : (s.setResult v).inLen = s.inLen := rfl
@[simp] theorem State.setResult_outLen (v : Value) : (s.setResult v).outLen = s.outLen := rfl
@[simp] theorem State.setResult_saltLen (v : Value) : (s.setResult v).saltLen = s.saltLen := rfl
@[simp] theorem State.setResult_inText (v : Value) : (s.setResult v).inText = s.inText := rfl
@[simp] theorem State.setResult_outText (v : Value) : (s.setResult v).outText = s.outText := rfl
@[simp] theorem State.setResult_salt (v : Value) : (s.setResult v).salt = s.salt := rfl
@[simp] theorem State.setResult_perm (v : Value) : (s.setResult v).perm = s.perm := rfl
@[simp] theorem State.setResult_active (v : Value) : (s.setResult v).active = s.active := rfl
@[simp] theorem State.setResult_pend (v : Value) : (s.setResult v).pend = s.pend := rfl
@[simp] theorem State.setResult_params (v : Value) : (s.setResult v).params = s.params := rfl
@[simp] theorem State.setResult_response (v : Value) : (s.setResult v).response = s.response := rfl
@[simp] theorem State.setResult_schedule (v : Value) : (s.setResult v).schedule = s.schedule := rfl

/-! ### idle -/

@[simp] theorem State.idle_status : (s.idle).status = { s.status with busy := false } := rfl
@[simp] theorem State.idle_doneIe : (s.idle).doneIe = s.doneIe := rfl
@[simp] theorem State.idle_errInfo : (s.idle).errInfo = s.errInfo := rfl
@[simp] theorem State.idle_valLo : (s.idle).valLo = s.valLo := rfl
@[simp] theorem State.idle_valHi : (s.idle).valHi = s.valHi := rfl
@[simp] theorem State.idle_resLo : (s.idle).resLo = s.resLo := rfl
@[simp] theorem State.idle_resHi : (s.idle).resHi = s.resHi := rfl
@[simp] theorem State.idle_inLen : (s.idle).inLen = s.inLen := rfl
@[simp] theorem State.idle_outLen : (s.idle).outLen = s.outLen := rfl
@[simp] theorem State.idle_saltLen : (s.idle).saltLen = s.saltLen := rfl
@[simp] theorem State.idle_inText : (s.idle).inText = s.inText := rfl
@[simp] theorem State.idle_outText : (s.idle).outText = s.outText := rfl
@[simp] theorem State.idle_salt : (s.idle).salt = s.salt := rfl
@[simp] theorem State.idle_perm : (s.idle).perm = s.perm := rfl
@[simp] theorem State.idle_active : (s.idle).active = s.active := rfl
@[simp] theorem State.idle_pend : (s.idle).pend = Option.none := rfl
@[simp] theorem State.idle_params : (s.idle).params = s.params := rfl
@[simp] theorem State.idle_response : (s.idle).response = s.response := rfl
@[simp] theorem State.idle_schedule : (s.idle).schedule = s.schedule := rfl

/-! ### taking an event off the schedule -/

@[simp] theorem State.withSchedule_status (es : List Event) : ({ s with schedule := es } : State).status = s.status := rfl
@[simp] theorem State.withSchedule_doneIe (es : List Event) : ({ s with schedule := es } : State).doneIe = s.doneIe := rfl
@[simp] theorem State.withSchedule_errInfo (es : List Event) : ({ s with schedule := es } : State).errInfo = s.errInfo := rfl
@[simp] theorem State.withSchedule_valLo (es : List Event) : ({ s with schedule := es } : State).valLo = s.valLo := rfl
@[simp] theorem State.withSchedule_valHi (es : List Event) : ({ s with schedule := es } : State).valHi = s.valHi := rfl
@[simp] theorem State.withSchedule_resLo (es : List Event) : ({ s with schedule := es } : State).resLo = s.resLo := rfl
@[simp] theorem State.withSchedule_resHi (es : List Event) : ({ s with schedule := es } : State).resHi = s.resHi := rfl
@[simp] theorem State.withSchedule_inLen (es : List Event) : ({ s with schedule := es } : State).inLen = s.inLen := rfl
@[simp] theorem State.withSchedule_outLen (es : List Event) : ({ s with schedule := es } : State).outLen = s.outLen := rfl
@[simp] theorem State.withSchedule_saltLen (es : List Event) : ({ s with schedule := es } : State).saltLen = s.saltLen := rfl
@[simp] theorem State.withSchedule_inText (es : List Event) : ({ s with schedule := es } : State).inText = s.inText := rfl
@[simp] theorem State.withSchedule_outText (es : List Event) : ({ s with schedule := es } : State).outText = s.outText := rfl
@[simp] theorem State.withSchedule_salt (es : List Event) : ({ s with schedule := es } : State).salt = s.salt := rfl
@[simp] theorem State.withSchedule_perm (es : List Event) : ({ s with schedule := es } : State).perm = s.perm := rfl
@[simp] theorem State.withSchedule_active (es : List Event) : ({ s with schedule := es } : State).active = s.active := rfl
@[simp] theorem State.withSchedule_pend (es : List Event) : ({ s with schedule := es } : State).pend = s.pend := rfl
@[simp] theorem State.withSchedule_params (es : List Event) : ({ s with schedule := es } : State).params = s.params := rfl
@[simp] theorem State.withSchedule_response (es : List Event) : ({ s with schedule := es } : State).response = s.response := rfl

/-! ### setReg: it writes only RW data registers -/

@[simp] theorem setReg_status (r : Reg) (d : Word) : (setReg s r d).status = s.status := by cases r <;> rfl
@[simp] theorem setReg_doneIe (r : Reg) (d : Word) : (setReg s r d).doneIe = s.doneIe := by cases r <;> rfl
@[simp] theorem setReg_errInfo (r : Reg) (d : Word) : (setReg s r d).errInfo = s.errInfo := by cases r <;> rfl
@[simp] theorem setReg_resLo (r : Reg) (d : Word) : (setReg s r d).resLo = s.resLo := by cases r <;> rfl
@[simp] theorem setReg_resHi (r : Reg) (d : Word) : (setReg s r d).resHi = s.resHi := by cases r <;> rfl
@[simp] theorem setReg_outLen (r : Reg) (d : Word) : (setReg s r d).outLen = s.outLen := by cases r <;> rfl
@[simp] theorem setReg_outText (r : Reg) (d : Word) : (setReg s r d).outText = s.outText := by cases r <;> rfl
@[simp] theorem setReg_active (r : Reg) (d : Word) : (setReg s r d).active = s.active := by cases r <;> rfl
@[simp] theorem setReg_pend (r : Reg) (d : Word) : (setReg s r d).pend = s.pend := by cases r <;> rfl
@[simp] theorem setReg_params (r : Reg) (d : Word) : (setReg s r d).params = s.params := by cases r <;> rfl
@[simp] theorem setReg_response (r : Reg) (d : Word) : (setReg s r d).response = s.response := by cases r <;> rfl
@[simp] theorem setReg_schedule (r : Reg) (d : Word) : (setReg s r d).schedule = s.schedule := by cases r <;> rfl

end

/-! ### the flags -/

section
variable (st : Status) (d : Word)

@[simp] theorem Status.accepted_busy : st.accepted.busy = true := rfl
@[simp] theorem Status.accepted_done : st.accepted.done = false := rfl
@[simp] theorem Status.accepted_err : st.accepted.err = false := rfl
@[simp] theorem Status.accepted_drop : st.accepted.drop = st.drop := rfl
@[simp] theorem Status.completed_busy (e : Bool) : (st.completed e).busy = false := rfl
@[simp] theorem Status.completed_done (e : Bool) : (st.completed e).done = true := rfl
@[simp] theorem Status.completed_err (e : Bool) : (st.completed e).err = e := rfl
@[simp] theorem Status.completed_drop (e : Bool) : (st.completed e).drop = st.drop := rfl
@[simp] theorem Status.dropped_busy : st.dropped.busy = st.busy := rfl
@[simp] theorem Status.dropped_done : st.dropped.done = st.done := rfl
@[simp] theorem Status.dropped_err : st.dropped.err = st.err := rfl
@[simp] theorem Status.dropped_drop : st.dropped.drop = true := rfl
@[simp] theorem Status.write_busy : (st.write d).busy = st.busy := rfl
@[simp] theorem Status.write_err : (st.write d).err = st.err := rfl
@[simp] theorem Status.write_done : (st.write d).done = (st.done && !d.getLsbD 1) := rfl
@[simp] theorem Status.write_drop : (st.write d).drop = (st.drop && !d.getLsbD 3) := rfl
@[simp] theorem ErrInfo.none_code : ErrInfo.none.code = 0 := rfl
@[simp] theorem ErrInfo.none_pos : ErrInfo.none.pos = 0 := rfl
@[simp] theorem ErrInfo.none_byte : ErrInfo.none.byte = 0 := rfl
@[simp] theorem Failure.info_code (f : Failure) : f.info.code = f.code.bits := rfl
@[simp] theorem Failure.info_pos (f : Failure) : f.info.pos = f.pos := rfl
@[simp] theorem Failure.info_byte (f : Failure) : f.info.byte = f.byte := rfl

/-- No error has code 0 (R200). -/
theorem ErrorCode.bits_ne_zero (c : ErrorCode) : c.bits ≠ 0 := by cases c <;> decide

/-- The codes are 1 to 7 (R200). -/
theorem ErrorCode.bits_le (c : ErrorCode) : c.bits ≤ 7 := by cases c <;> decide

end

end Sys2Proof.Machine
end

