-- ==== Sys2Proof/Laws/Ops.lean ====
section
/-! SUPPORT. For each shared operation, one lemma that says once everything it can do, and its frame. -/

namespace Sys2Proof.Machine

/-! ### The bus -/

/-- An access is served exactly when its size is 4 and its offset is aligned (R61). -/
theorem busError_eq_false_iff (off : BitVec 8) (size : Size) :
    busError off size = false ↔ size = .four ∧ off.extractLsb' 0 2 = 0#2 := by
  simp [busError]

/-- The two low bits of an offset are its remainder by 4. -/
theorem extractLsb'_two_eq_zero_iff (off : BitVec 8) : off.extractLsb' 0 2 = 0#2 ↔ off.toNat % 4 = 0 := by
  rw [← BitVec.toNat_inj]
  simp

/-- What `BusRead` answers. -/
theorem busRead_cases (s : State) (off : BitVec 8) (size : Size) :
    (busError off size = true ∧ busRead s off size = (0, true)) ∨
    (busError off size = false ∧ busRead s off size = (readReg s (regAt off), false)) := by
  cases h : busError off size <;> simp [busRead, h]

/-- What `Accept` does: nothing for `NOP`, else it starts one command. -/
theorem accept_cases (s : State) (w : Word) :
    (decodeCmd w = .nop ∧ accept s w = s) ∨ (decodeCmd w ≠ .nop ∧ ∃ c, accept s w = s.start c) := by
  unfold accept
  cases decodeCmd w <;> simp

/-- What a served write does to a register: a flag write, a drop, an acceptance, a data write, or nothing. -/
theorem writeReg_cases (s : State) (r : Reg) (d : Word) :
    (r = .status ∧ writeReg s r d = { s with status := s.status.write d }) ∨
    (r = .inten ∧ writeReg s r d = { s with doneIe := d.getLsbD 0 }) ∨
    (s.pend.isSome = true ∧ (r = .ctrl ∨ r.isRwData = true) ∧ writeReg s r d = s.markDropped) ∨
    (s.pend = Option.none ∧ r = .ctrl ∧ writeReg s r d = accept s d) ∨
    (s.pend = Option.none ∧ r.isRwData = true ∧ writeReg s r d = setReg s r d) ∨
    (r.isRwData = false ∧ r ≠ .ctrl ∧ writeReg s r d = s) := by
  cases hp : s.pend <;> cases r <;> simp [writeReg, Reg.isRwData, hp]

/-- What `BusWrite` does. -/
theorem busWrite_cases (s : State) (off : BitVec 8) (d : Word) (size : Size) :
    (busError off size = true ∧ busWrite s off d size = (s, true)) ∨
    (busError off size = false ∧ busWrite s off d size = (writeReg s (regAt off) d, false)) := by
  cases h : busError off size <;> simp [busWrite, h]

/-- What a served write leaves alone, whatever the register and the data. -/
structure WriteKeeps (s t : State) : Prop where
  results : SameResults s t
  active : t.active = s.active
  params : t.params = s.params
  response : t.response = s.response
  schedule : t.schedule = s.schedule

/-- Nothing written keeps everything. -/
theorem WriteKeeps.refl (s : State) : WriteKeeps s s :=
  { results := { resLo := rfl, resHi := rfl, outLen := rfl, outText := rfl, errInfo := rfl }
    active := rfl, params := rfl, response := rfl, schedule := rfl }

/-- A write of flags or of `PEND` keeps the rest. -/
theorem WriteKeeps.of_flags (s : State) (st : Status) (ie : Bool) (p : Option Command) :
    WriteKeeps s { s with status := st, doneIe := ie, pend := p } :=
  { results := { resLo := rfl, resHi := rfl, outLen := rfl, outText := rfl, errInfo := rfl }
    active := rfl, params := rfl, response := rfl, schedule := rfl }

/-- A data write keeps the rest. -/
theorem WriteKeeps.of_setReg (s : State) (r : Reg) (d : Word) : WriteKeeps s (setReg s r d) :=
  { results := { resLo := by simp, resHi := by simp, outLen := by simp, outText := by simp, errInfo := by simp }
    active := by simp, params := by simp, response := by simp, schedule := by simp }

/-- The frame of every served write. -/
theorem writeReg_keeps (s : State) (r : Reg) (d : Word) : WriteKeeps s (writeReg s r d) := by
  rcases writeReg_cases s r d with ⟨-, h⟩ | ⟨-, h⟩ | ⟨-, -, h⟩ | ⟨-, -, h⟩ | ⟨-, -, h⟩ | ⟨-, -, h⟩ <;> rw [h]
  · exact WriteKeeps.of_flags s _ s.doneIe s.pend
  · exact WriteKeeps.of_flags s s.status _ s.pend
  · exact WriteKeeps.of_flags s _ s.doneIe s.pend
  · rcases accept_cases s d with ⟨-, ha⟩ | ⟨-, c, ha⟩ <;> rw [ha]
    · exact WriteKeeps.refl s
    · exact WriteKeeps.of_flags s _ s.doneIe _
  · exact WriteKeeps.of_setReg s r d
  · exact WriteKeeps.refl s

/-! ### The commands -/

/-- What CONFIGURE does: one failure of its check, or the installation of the staged configuration. -/
theorem execConfigure_cases (s : State) :
    (∃ f, configureFailure s = some f ∧ execConfigure s = .next (fail s f)) ∨
    (configureFailure s = Option.none ∧ execConfigure s = .next (complete (s.install (stagedConfiguration s)))) := by
  unfold execConfigure
  cases configureFailure s <;> simp

/-- What DECODE does: one failure, or a result. -/
theorem execDecode_cases (s : State) :
    (∃ f, decodeText s.active s.inLen s.inText = .error f ∧ execDecode s = .next (fail s f)) ∨
    (∃ v, decodeText s.active s.inLen s.inText = .ok v ∧ execDecode s = .next (complete (s.setResult v))) := by
  unfold execDecode
  cases decodeText s.active s.inLen s.inText <;> simp

/-- The staged configuration's alphabet (R138). -/
@[simp] theorem stagedConfiguration_perm (s : State) : (stagedConfiguration s).perm = foldedAlphabet s.perm := by
  simp only [stagedConfiguration]

/-- The staged configuration's decode table (R138). -/
@[simp] theorem stagedConfiguration_dec (s : State) :
    (stagedConfiguration s).dec = buildDec s.params.checkSet (foldedAlphabet s.perm) := by
  simp only [stagedConfiguration]

/-- The staged configuration's salt (R138). -/
@[simp] theorem stagedConfiguration_salt (s : State) : (stagedConfiguration s).salt = stagedSalt s.salt := by
  simp only [stagedConfiguration]

/-- The staged configuration's salt length (R138). -/
@[simp] theorem stagedConfiguration_saltLen (s : State) : (stagedConfiguration s).saltLen = s.saltLen := by
  simp only [stagedConfiguration]

/-- What the engine's turn does, by the pending command. -/
theorem engineTurn_cases (s : State) :
    (s.pend = Option.none ∧ engineTurn s = .next s) ∨
    (s.pend = some .encode ∧ engineTurn s = execEncode s) ∨
    (s.pend = some .decode ∧ engineTurn s = execDecode s) ∨
    (s.pend = some .configure ∧ engineTurn s = execConfigure s) ∨
    (s.pend = some .illegal ∧ engineTurn s = .next (fail s { code := .illegalCommand })) := by
  unfold engineTurn
  rcases h : s.pend with _ | c
  · simp [exec, execNop]
  · cases c <;> simp [exec, execIllegal]

/-- What a step does, by the next event. -/
theorem step_cases (s : State) :
    (s.schedule = [] ∧ step s = engineTurn s) ∨
    (∃ e rest, s.schedule = e :: rest ∧ step s = runEvent e { s with schedule := rest }) := by
  unfold step
  cases h : s.schedule <;> simp

end Sys2Proof.Machine
end

