-- ==== Sys2Proof/Laws/PerInstr.lean ====
section
/-! SUPPORT. The family of statements about every instruction as syntax: how many bytes its encoding takes. -/

namespace Sys2Proof.Laws

/-- The bytes of an instruction's encoding: 4 for a command word (R80), 6 for a host-operation word of 41 bits (R91). -/
def instrBytes : Instr → Nat
  | .nop => 4
  | .encode => 4
  | .decode => 4
  | .configure => 4
  | .rd _ _ => 6
  | .wr _ _ _ => 6

/-- The encoding of an instruction has the length of its format. -/
def EncodedLength.Statement (i : Instr) : Prop := (encodeBytes i).length = instrBytes i

theorem EncodedLength.nop : EncodedLength.Statement .nop := rfl
theorem EncodedLength.encode : EncodedLength.Statement .encode := rfl
theorem EncodedLength.decode : EncodedLength.Statement .decode := rfl
theorem EncodedLength.configure : EncodedLength.Statement .configure := rfl
theorem EncodedLength.rd (off : BitVec 8) (size : Size) : EncodedLength.Statement (.rd off size) := rfl
theorem EncodedLength.wr (off : BitVec 8) (data : BitVec 32) (size : Size) : EncodedLength.Statement (.wr off data size) := rfl

end Sys2Proof.Laws
end

