-- ==== Sys2Proof/Laws/Text.lean ====
section
/-! SUPPORT. Byte groups: the bytes of a register and the halves of a 64-bit value (30_encoding.md R84, R85). -/

namespace Sys2Proof.Machine

/-- Byte `j` of a packed register is byte `4k + j` of the text. -/
theorem packWord_byte (bs : List Byte) (k j : Nat) (hj : j < 4) :
    (packWord bs k).extractLsb' (8 * j) 8 = bs.getD (4 * k + j) 0#8 := by
  have h : j = 0 ∨ j = 1 ∨ j = 2 ∨ j = 3 := by omega
  apply BitVec.eq_of_getLsbD_eq
  intro i hi
  rcases h with rfl | rfl | rfl | rfl <;>
    simp only [packWord, BitVec.getLsbD_extractLsb', BitVec.getLsbD_append, hi, decide_true, Bool.true_and] <;>
    (repeat' split) <;> first | omega | (congr 1; omega)

/-- A byte of a group in range is a byte of its register. -/
theorem textByte_of_lt {n : Nat} (t : Vector Word n) (i : Nat) (h : i / 4 < n) :
    textByte t i = (t[i / 4]'h).extractLsb' (8 * (i % 4)) 8 := by
  simp [textByte, h]

/-- The halves of a 64-bit value put together again (R84). -/
theorem highHalf_append_lowHalf (v : Value) : highHalf v ++ lowHalf v = v := by
  apply BitVec.eq_of_getLsbD_eq
  intro i hi
  simp only [highHalf, lowHalf, BitVec.getLsbD_append, BitVec.getLsbD_extractLsb']
  split
  · simp [*]
  · have : 32 + (i - 32) = i := by omega
    have h2 : i - 32 < 32 := by omega
    simp [h2, this]

/-- The low half of a value is its low register (R84). -/
theorem lowHalf_append (h l : Word) : lowHalf (h ++ l) = l := by
  apply BitVec.eq_of_getLsbD_eq
  intro i hi
  simp only [lowHalf, BitVec.getLsbD_extractLsb', BitVec.getLsbD_append]
  simp [hi]

/-- The high half of a value is its high register (R84). -/
theorem highHalf_append (h l : Word) : highHalf (h ++ l) = h := by
  apply BitVec.eq_of_getLsbD_eq
  intro i hi
  simp only [highHalf, BitVec.getLsbD_extractLsb', BitVec.getLsbD_append]
  simp [hi]

end Sys2Proof.Machine
end

