-- ==== Sys2Proof/Machine/HostPrograms.lean ====
section
/-! DEFINITION. What the spec gives of the host's side: the pseudo-instructions (30_encoding.md R92), the salt hash core
and the constructors (41_configure.md R145 to R148), and the boot sequence (70_reset_and_hazards.md R234), each as the
events it puts on the schedule. Nothing of the block depends on this file. -/

namespace Sys2Proof.Machine

/-! ### The pseudo-instructions (R92) -/

/-- `RD <reg>` at an offset, as an event. -/
def rdEvent (off : BitVec 8) : Event := .hop (mkHop 0 off 0)

/-- `WR <reg>, <imm32>` at an offset, as an event. -/
def wrEvent (off : BitVec 8) (data : Word) : Event := .hop (mkHop 1 off data)

/-- `NOP`. -/
def nopOp : List Event := [wrEvent 0x04 0x0]

/-- `ENCODE`. -/
def encodeOp : List Event := [wrEvent 0x04 0x1]

/-- `DECODE`. -/
def decodeOp : List Event := [wrEvent 0x04 0x2]

/-- `CONFIGURE`. -/
def configureOp : List Event := [wrEvent 0x04 0x3]

/-- `WAIT`, for a completion that comes after `busyPolls` polls that still read `BUSY = 1`: the poll loop ends with
the first read after the completion. -/
def waitOp (busyPolls : Nat) : List Event := List.replicate busyPolls (rdEvent 0x08) ++ [.engine, rdEvent 0x08]

/-- `CLRDONE`. -/
def clrDoneOp : List Event := [wrEvent 0x08 0x2]

/-- `CLRDROP`. -/
def clrDropOp : List Event := [wrEvent 0x08 0x8]

/-- `WRVAL <imm64>`. -/
def wrValOp (v : Value) : List Event := [wrEvent 0x14 (lowHalf v), wrEvent 0x18 (highHalf v)]

/-- Writes of words to consecutive registers from an offset. -/
def wrGroup : BitVec 8 → List Word → List Event
  | _, [] => []
  | off, w :: ws => wrEvent off w :: wrGroup (off + 4) ws

/-- A length as a 32-bit register takes it, capped at `0xFFFF_FFFF` (R30, R34). -/
def cappedLength (n : Nat) : Word := BitVec.ofNat 32 (min n 0xFFFFFFFF)

/-- `WRTEXT IN, "<s>"`: the first 16 bytes, then the true length. -/
def wrTextOp (s : List Byte) : List Event :=
  wrGroup 0x30 (packText (s.take 16)).toList ++ [wrEvent 0x24 (cappedLength s.length)]

/-- `WRSALT "<s>"`: the first 16 bytes, then the true length. -/
def wrSaltOp (s : List Byte) : List Event :=
  wrGroup 0x50 (packText (s.take 16)).toList ++ [wrEvent 0x2C (cappedLength s.length)]

/-- `WRPERM "<s32>"`. -/
def wrPermOp (p : List Byte) : List Event := wrGroup 0x60 (packText8 p).toList

/-! ### The host-side derivation (R145 to R147) -/

/-- One byte of the hash (R145): XOR, then multiply by `16777619` modulo `2^32`. -/
def fnvByte (h : BitVec 32) (b : Byte) : BitVec 32 := (h ^^^ b.setWidth 32) * 16777619#32

/-- `FNV1a32` (R145), from the offset basis `2166136261`. -/
def fnv1a32 (s : List Byte) : BitVec 32 := s.foldl fnvByte 2166136261#32

/-- The salt-derived seed (R146). -/
def saltSeed (salt : List Byte) : BitVec 32 := Config.finishMix (fnv1a32 salt)

/-- The alphabet a seed gives (R147): `CANON` in the order of `Shuffle`. -/
def shuffledAlphabet (seed : Nat) : List Byte :=
  (Vector.ofFn fun i => canon[(Config.shuffle seed i).val]'(Config.shuffle seed i).isLt).toList

/-! ### The constructors (R148) and the boot sequence (R234) -/

/-- `with_custom_alphabet(salt, alphabet_spec)`, which is also the boot sequence of R234: stage the alphabet and the
salt, `CONFIGURE`, `WAIT`, and read `STATUS`. -/
def withCustomAlphabet (salt alphabet : List Byte) (busyPolls : Nat) : List Event :=
  wrPermOp alphabet ++ wrSaltOp salt ++ configureOp ++ waitOp busyPolls ++ [rdEvent 0x08]

/-- `from_salt(salt)`. -/
def fromSalt (salt : List Byte) (busyPolls : Nat) : List Event :=
  withCustomAlphabet salt (shuffledAlphabet (saltSeed salt).toNat) busyPolls

/-- `from_seed(seed)`; the salt, which the source does not name, is the host's choice. -/
def fromSeed (seed : BitVec Config.seedBits) (salt : List Byte) (busyPolls : Nat) : List Event :=
  withCustomAlphabet salt (shuffledAlphabet seed.toNat) busyPolls

/-- `new(salt)` with the canonical alphabet; with a shuffled one it is `fromSalt` or `fromSeed`, by the host's choice. -/
def newCodec (salt : List Byte) (busyPolls : Nat) : List Event := withCustomAlphabet salt canon.toList busyPolls

/-- A block with more events on its schedule, after those it has. -/
def State.schedules (s : State) (es : List Event) : State := { s with schedule := s.schedule ++ es }

end Sys2Proof.Machine
end

