-- ==== Sys2Proof/Tests/Slice0.lean ====
section
/-! SUPPORT. Tests on fixed values, each with the place in spec/ its expected value comes from (the vectors V of
95_test_vectors.md, or an encoding worked out from its rule), and a witness for the hypotheses of each obligation. -/

namespace Sys2Proof.Tests

open Sys2Proof Sys2Proof.Machine

/-! ### Helpers -/

/-- The next state of an outcome. -/
def nextOf (o : Host.Outcome State Fault Refusal) : Option State :=
  match o with
  | .next t => some t
  | .fault _ => none
  | .refused _ => none

/-- A part of the next state, which must exist. -/
def after {α : Type} (o : Host.Outcome State Fault Refusal) (f : State → α) : Option α := (nextOf o).map f

/-- The three words a host reads after a command: `STATUS`, `ERRINFO`, and `RES_HI:RES_LO`. -/
def report (t : State) : Word × Word × Value := (t.status.word, t.errInfo.word, t.result)

/-- The text ENCODE left: `OUT_LEN` and `OUT_TEXT`. -/
def output (t : State) : BitVec 4 × List Word := (t.outLen, t.outText.toList)

/-- A block with a command pending, as acceptance leaves it. -/
def pending (c : Command) (s : State) : State := s.start c

/-- The alphabet `REV` of 95_test_vectors.md, staged. -/
def revStaging : Vector Word 8 :=
  #v[0x5758595A, 0x52535456, 0x4D4E5051, 0x47484A4B, 0x43444546, 0x38394142, 0x34353637, 0x30313233]

/-- `REV` with the salt "weird", staged (P2). -/
def revStaged : State :=
  { State.reset with perm := revStaging, salt := #v[0x72696577, 0x00000064, 0, 0], saltLen := 5 }

/-- The alphabet `CANON` staged with another word in `PERM0`, and a salt length. -/
def perm0Staged (w : Word) (saltLen : Word) : State :=
  { State.reset with perm := State.reset.perm.set 0 w, saltLen := saltLen }

/-- The staged salt with length 0. -/
def unsalted (s : State) : State := { s with saltLen := 0 }

/-- The active configuration `CANON+weird`. -/
def weirdActive : Active :=
  { State.reset.active with salt := #v[0x77, 0x65, 0x69, 0x72, 0x64, 0, 0, 0, 0, 0, 0, 0, 0], saltLen := 5 }

/-- The block with a value to encode. -/
def valued (lo hi : Word) : State := { State.reset with valLo := lo, valHi := hi }

/-- The block with an input to decode. -/
def texted (len w0 w1 w2 w3 : Word) : State := { State.reset with inLen := len, inText := #v[w0, w1, w2, w3] }

/-- The end state of P1: 5111 encoded. -/
def encoded : State :=
  { valued 0x13F7 0 with
    outLen := 3, outText := #v[0x00515A34, 0, 0, 0]
    status := { busy := false, done := true, err := false, drop := false } }

/-! ### Well-formedness: an ill-formed term for each check, refused -/

theorem test_wellFormed_refuses_small_reads :
    (Instr.rd 0x14 .two).wellFormed = false ∧ (Instr.rd 0x14 .one).wellFormed = false := by decide

theorem test_wellFormed_refuses_small_writes :
    (Instr.wr 0x30 0 .one).wellFormed = false ∧ (Instr.wr 0x30 0 .two).wellFormed = false := by decide

theorem test_wellFormed_accepts_words :
    (Instr.rd 0x15 .four).wellFormed = true ∧ (Instr.wr 0x30 0 .four).wellFormed = true ∧
    Instr.nop.wellFormed = true ∧ Instr.encode.wellFormed = true ∧
    Instr.decode.wellFormed = true ∧ Instr.configure.wellFormed = true := by decide

/-! ### Decoding: words written out from the encodings -/

/-- R81: `NOP` is the word with all bits 0. -/
theorem test_decode_nop : decodeBytes [0x00, 0x00, 0x00, 0x00] = .ok .nop := by decide
/-- R81: `ENCODE` is bit 0 alone. -/
theorem test_decode_encode : decodeBytes [0x01, 0x00, 0x00, 0x00] = .ok .encode := by decide
/-- R81: `DECODE` is bit 1 alone. -/
theorem test_decode_decode : decodeBytes [0x02, 0x00, 0x00, 0x00] = .ok .decode := by decide
/-- R81: `CONFIGURE` is bits 1 and 0. -/
theorem test_decode_configure : decodeBytes [0x03, 0x00, 0x00, 0x00] = .ok .configure := by decide
/-- P1: `RD OUT_TEXT0` is `HOP 0x04000000000`. -/
theorem test_decode_rd : decodeTableWord 48 0x04000000000 = some (.rd 0x40 .four) := by decide
/-- P1: `WR VAL_LO, 0x000013F7` is `HOP 0x114000013F7`. -/
theorem test_decode_wr : decodeTableWord 48 0x114000013F7 = some (.wr 0x14 0x13F7 .four) := by decide
/-- P5, V19h, V19j, V19k: reserved words are ILLEGAL. -/
theorem test_decode_illegal :
    [0x5#32, 0x11#32, 0xFFFFFFFF#32, 0xF#32, 0x4#32, 0x10#32].map decodeCmd =
      [.illegal, .illegal, .illegal, .illegal, .illegal, .illegal] := by decide
/-- R91: a word with bit 41 set is no host-operation word; R89: ILLEGAL is no row of the table. -/
theorem test_decode_rejects :
    decodeBytes [0, 0, 0, 0, 0, 0x02] = .error .bitsAboveHop ∧ decodeBytes [0x05, 0, 0, 0] = .error (.illegalCommand 5) ∧
    decodeBytes [0] = .error (.badLength 1) ∧ decodeTableWord 48 0x20000000000 = none := by decide
/-- P3: the encoder writes `WR STATUS, 0x0000000A` as `HOP 0x1080000000A`. -/
theorem test_encode_wr : encodeBytes (.wr 0x08 0x0A .four) = [0x0A, 0x00, 0x00, 0x00, 0x08, 0x01] := by decide

/-! ### The tables -/

/-- R131: the bytes 'I', 'L', 'O', 'U' and the lowercase letters are no canonical symbols. -/
theorem test_isCanon_excludes : [0x49, 0x4C, 0x4F, 0x55, 0x61, 0x7A, 0x2F, 0x3A, 0x40, 0x5B].any isCanon = false := by decide

/-- R133: the entries of `D0` at each row of its table. -/
theorem test_canonical_table :
    [0x30, 0x6F, 0x69, 0x4C, 0x39, 0x68, 0x6B, 0x4E, 0x54, 0x7A, 0x55, 0x7E, 0x23, 0xFF].map
        (entryAt State.reset.active.dec) =
      [.digit 0, .digit 0, .digit 1, .digit 1, .digit 9, .digit 17, .digit 19, .digit 21, .digit 26, .digit 31,
       .check, .check, .invalid, .invalid] := by decide +kernel

/-- R133: sixty bytes map to a digit. -/
theorem test_sixty_digit_bytes :
    (State.reset.active.dec.toList.filter fun e => (codedDigit e).isSome).length = 60 := by decide +kernel

/-- V32: the keystream of the salt "weird". -/
theorem test_keystream_weird : (List.range 7).map weirdActive.keystream = [23, 5, 9, 18, 4, 23, 5] := by decide +kernel

/-- V93, V95: the hash core. -/
theorem test_fnv1a32 : fnv1a32 [0x61] = 0xE40C292C ∧ fnv1a32 [0x77, 0x65, 0x69, 0x72, 0x64] = 0x97413796 := by decide

/-! ### One step each -/

/-- V1: ENCODE of 5111 gives "4ZQ". -/
theorem test_encode_5111 :
    after (exec .encode (pending .encode (valued 0x13F7 0))) output = some (3, [0x00515A34, 0, 0, 0]) := by decide +kernel

/-- V55: ENCODE of `2^64 - 1` under `CANON+weird` gives "RTPDV8TPDV8TP". -/
theorem test_encode_max_salted :
    after (exec .encode { pending .encode (valued 0xFFFFFFFF 0xFFFFFFFF) with active := weirdActive }) output =
      some (13, [0x44505452, 0x50543856, 0x54385644, 0x50]) := by decide +kernel

/-- V11 and V59: DECODE of "4zq" gives 5111, and "G000000000000" wraps to 0. -/
theorem test_decode_values :
    after (exec .decode (pending .decode (texted 3 0x00717A34 0 0 0))) report = some (0x2, 0, 5111) ∧
    after (exec .decode (pending .decode (texted 13 0x30303047 0x30303030 0x30303030 0x30))) report = some (0x2, 0, 0) := by
  decide +kernel

/-- V14 and V64: "12#4" reports the byte '#' at position 2, and "1*" the check digit at position 1. -/
theorem test_decode_errors :
    after (exec .decode (pending .decode (texted 4 0x34233231 0 0 0))) report = some (0x6, 0x00230203, 0) ∧
    after (exec .decode (pending .decode (texted 2 0x00002A31 0 0 0))) report = some (0x6, 0x002A0104, 0) := by decide +kernel

/-- V28: a duplicate '0' is reported before the empty salt, and the active alphabet stays. -/
theorem test_configure_duplicate :
    after (exec .configure (pending .configure (perm0Staged 0x33323030 0)))
      (fun t => (t.status.word, t.errInfo.word, t.active.perm)) = some (0x6, 0x00300105, canon) := by decide +kernel

/-- V21: the alphabet `REV` with salt "weird" is installed. -/
theorem test_configure_rev :
    after (exec .configure (pending .configure revStaged))
      (fun t => (t.status.word, t.active.perm[0], t.active.saltLen, entryAt t.active.dec 0x6F)) =
      some (0x2, 0x5A, 5, .digit 31) := by decide +kernel

/-- V19a: a misaligned read gets the bus error. -/
theorem test_rd_misaligned : after (exec (.rd 0x15 .four) State.reset) State.response = some (.read 0 true) := by decide

/-- V16: `RD PERM7` after reset. -/
theorem test_rd_perm7 : after (exec (.rd 0x7C .four) State.reset) State.response = some (.read 0x5A595857 false) := by decide

/-- V19c: a write while busy is dropped; `STATUS` is `0x9`. -/
theorem test_wr_busy :
    after (exec (.wr 0x14 0x2A .four) (pending .decode State.reset)) (fun t => (t.valLo, t.status.word)) = some (0, 0x9) := by
  decide

/-- V19e: `WR STATUS, 0xA` with `STATUS = 0xE` leaves `0x4`. -/
theorem test_wr_status :
    after (exec (.wr 0x08 0xA .four)
      { State.reset with status := { busy := false, done := true, err := true, drop := true } })
      (fun t => t.status.word) = some 0x4 := by decide

/-- V19g: `NOP` written with `STATUS = 0x2` leaves `0x2` and nothing pending. -/
theorem test_nop_word : after (exec (.wr 0x04 0 .four) encoded) (fun t => (t.status.word, t.pend)) = some (0x2, none) := by decide

/-- V19i: the illegal word `0x11` completes with code 7. -/
theorem test_illegal_completion :
    after (engineTurn (pending .illegal encoded)) (fun t => (t.status.word, t.errInfo.word, t.outLen)) =
      some (0x6, 0x7, 3) := by decide

/-! ### Witnesses: concrete states and operands that meet the hypotheses of the obligations -/

/-- A block with one event scheduled. -/
def scheduled (e : Event) (s : State) : State := { s with schedule := [e] }

/-- The block of P1, busy with an ENCODE. -/
def busy : State := pending .encode (valued 0x13F7 0)

/-- The block of V14, busy with a DECODE whose byte 2 is bad. -/
def badText : State := pending .decode (texted 4 0x34233231 0 0 0)

theorem witness_DecodeOfEncode : (Instr.wr 0xFF 0xFFFFFFFF .four).WellFormed ∧ (Instr.rd 0 .four).WellFormed := by decide

theorem witness_StepRunsDecodedInstruction_hop :
    (scheduled (.hop 0x114000013F7) encoded).schedule = .hop 0x114000013F7 :: [] := rfl

theorem witness_StepRunsDecodedInstruction_bus :
    (Transaction.mk 0xFF .two .read).instr encoded.params = some (.rd 0xFF .two) ∧
    (Transaction.mk 0 .four (.write 7)).instr encoded.params = some (.wr 0 7 .four) := by decide

theorem witness_StepRunsDecodedInstruction_engine :
    engineIsNext (scheduled .engine busy) ∧ busy.pend = some .encode ∧
    engineIsNext badText ∧ badText.pend = some .decode ∧
    engineIsNext (pending .configure revStaged) ∧ (pending .configure revStaged).pend = some .configure ∧
    engineIsNext (pending .illegal encoded) ∧ (pending .illegal encoded).pend = some .illegal ∧
    engineIsNext encoded ∧ encoded.pend = none :=
  ⟨.inr rfl, rfl, .inl rfl, rfl, .inl rfl, rfl, .inl rfl, rfl, .inl rfl, rfl⟩

theorem witness_FetchedWordRunsNext :
    decodeTableWord 32 3 = some .configure ∧ decodeTableWord 48 0x1FFFFFFFFFF = some (.wr 0xFF 0xFFFFFFFF .four) := by decide

theorem witness_PendingCommandCompletes :
    (scheduled (.hop 0x114000013F7) busy).pend.isSome = true ∧ .reset ∉ (scheduled (.hop 0x114000013F7) busy).schedule := by
  decide

theorem witness_CompletionReports : busy.pend.isSome = true := rfl

theorem witness_WindowAddressMap :
    255 < (Params.mk [] 1).base ∧ (Params.mk [] 1).base + 256 ≤ 512 := by decide

theorem witness_ResetEventGivesResetState : (scheduled .reset busy).schedule = .reset :: [] := rfl

theorem witness_InvariantAtReset :
    checkSetAdmitted Params.default.checkSet = true ∧ checkSetAdmitted [] = true := by decide +kernel

/-- The invariant holds of the end state of P1. -/
theorem encoded_inv : Inv encoded where
  params := by decide +kernel
  configuration :=
    { alphabet := by decide +kernel
      table := rfl
      saltLen := by decide }
  sequencing := { busy := by decide, pendingNotDone := by decide, pendingNoError := by decide }
  report :=
    { code := by decide, digitPos := by decide, alphabetPos := by decide, noPos := by decide, err := by decide
      done := by decide }
  output := { length := by decide, symbols := by decide +kernel, fill := by decide +kernel }

theorem witness_StepKeepsInvariant : Inv encoded ∧ step encoded = .next encoded := ⟨encoded_inv, rfl⟩

theorem witness_StepKeepsParameters : step encoded = .next encoded := rfl

theorem witness_AccessWidthAndAlignment :
    (Size.two ≠ .four ∨ (0x14 : BitVec 8).toNat % 4 ≠ 0) ∧ (Size.four ≠ .four ∨ (0xFD : BitVec 8).toNat % 4 ≠ 0) ∧
    (0xFC : BitVec 8).toNat % 4 = 0 := by decide

theorem witness_ReadReturnsRegister :
    ((0x80 : BitVec 8) ≤ 0x80 ∧ (0x80 : BitVec 8).toNat % 4 = 0) ∧
    ((0x80 : BitVec 8) ≤ 0xFC ∧ (0xFC : BitVec 8).toNat % 4 = 0) ∧
    (Size.one ≠ .four ∨ (0x00 : BitVec 8).toNat % 4 ≠ 0) := by decide

theorem witness_StatusAndIntenWrites : (0x2 : Word).getLsbD 1 = true := by decide

theorem witness_IdleWriteReplacesRegister : encoded.pend = none := rfl

theorem witness_BusyWriteIsDropped :
    busy.pend.isSome = true ∧ (0x04 : BitVec 8) ∈ ([0x04, 0x14, 0x18, 0x24, 0x2C, 0x30, 0x34, 0x38, 0x3C, 0x50, 0x54, 0x58,
      0x5C, 0x60, 0x64, 0x68, 0x6C, 0x70, 0x74, 0x78, 0x7C] : List (BitVec 8)) := by decide

theorem witness_ReadOnlyWritesIgnored :
    ((0x4C : BitVec 8).toNat % 4 = 0 ∧
      (0x4C : BitVec 8) ∈ ([0x00, 0x10, 0x1C, 0x20, 0x28, 0x40, 0x44, 0x48, 0x4C] : List (BitVec 8))) ∧
    ((0x80 : BitVec 8).toNat % 4 = 0 ∧ (0x80 : BitVec 8) ≤ 0x80) := by decide

theorem witness_CommandAcceptance : encoded.pend = none := rfl

theorem witness_NopHasNoEffect : encoded.pend = none ∧ busy.pend.isSome = true ∧ (0x10 : Word) ≠ 0 := ⟨rfl, rfl, by decide⟩

theorem witness_WriteFrame : busy.pend.isSome = true := rfl

theorem witness_WriteChangesOwnBytes :
    encoded.pend = none ∧ (0x7C : BitVec 8) ∈ ([0x14, 0x18, 0x24, 0x2C, 0x30, 0x34, 0x38, 0x3C, 0x50, 0x54, 0x58, 0x5C, 0x60,
      0x64, 0x68, 0x6C, 0x70, 0x74, 0x78, 0x7C] : List (BitVec 8)) ∧
    3 < 4 ∧ ((0x7B : BitVec 8) < 0x7C ∨ (0x7C : BitVec 8) + 3 < 0x7B) ∧
    ((0x80 : BitVec 8) < 0x7C ∨ (0x7C : BitVec 8) + 3 < 0x80) := by decide

theorem witness_WriteThenReadReturnsData :
    encoded.pend = none ∧ (0x14 : BitVec 8) ∈ ([0x14, 0x18, 0x24, 0x2C, 0x30, 0x34, 0x38, 0x3C, 0x50, 0x54, 0x58, 0x5C, 0x60,
      0x64, 0x68, 0x6C, 0x70, 0x74, 0x78, 0x7C] : List (BitVec 8)) := by decide

theorem witness_IllegalWordCompletes :
    encoded.pend = none ∧ (4 : Word) ≠ 0 ∧ (4 : Word) ≠ 1 ∧ (4 : Word) ≠ 2 ∧ (4 : Word) ≠ 3 := by decide

theorem witness_InterruptOutput :
    (0x2 : Word).getLsbD 1 = true ∧ encoded.pend = none ∧ (1 : Word) ≠ 0 ∧ busy.pend.isSome = true := by decide

theorem witness_HostEventsKeepResults :
    hostIsNext (scheduled (.hop 0x00800000000) busy) ∧
    ∃ t, step (scheduled (.hop 0x00800000000) busy) = .next t :=
  ⟨.inl ⟨_, rfl⟩, _, rfl⟩

/-- The active configuration changes in one part at least, its salt length: by a completion of CONFIGURE, and by reset. -/
theorem witness_OnlyConfigureChangesConfiguration :
    after (step (pending .configure revStaged)) (fun t => t.active.saltLen) = some 5 ∧
    (pending .configure revStaged).active.saltLen ≠ 5 ∧
    after (step (scheduled .reset { encoded with active := weirdActive })) (fun t => t.active.saltLen) = some 1 ∧
    weirdActive.saltLen ≠ 1 := by decide +kernel

theorem witness_OnlyOwnCompletionWritesResults :
    ¬ resetIsNext busy ∧ after (step busy) (fun t => decide (t.outLen = busy.outLen)) = some false ∧
    ¬ resetIsNext (pending .decode (texted 1 0x31 0 0 0)) ∧
    after (step (pending .decode (texted 1 0x31 0 0 0))) (fun t => decide (t.resLo = 0)) = some false := by
  refine ⟨by simp [resetIsNext, busy, pending, valued, State.start, State.reset, State.resetWith], by decide +kernel,
    by simp [resetIsNext, pending, texted, State.start, State.reset, State.resetWith], by decide +kernel⟩

theorem witness_PendingOperandsStable :
    (scheduled (.hop 0x114000013F7) busy).pend.isSome = true ∧ hostIsNext (scheduled (.hop 0x114000013F7) busy) ∧
    ∃ t, step (scheduled (.hop 0x114000013F7) busy) = .next t :=
  ⟨rfl, .inl ⟨_, rfl⟩, _, rfl⟩

/-- R144, V33, V34: the salts "A" and "a" of one byte; the salt " "; and salts of 13 and 20 bytes. -/
theorem witness_KeystreamProperties :
    (1 : Word) ≠ 0 ∧
    (∀ i : Fin 13, i.val < (1 : Word).toNat → (weirdActive.salt.set 0 0x41)[i].extractLsb' 0 5 =
      (State.reset.active.salt.set 0 0x61)[i].extractLsb' 0 5) ∧
    ((20 : Word) = 13 ∨ ((13 : Word) ≤ 20 ∧ (13 : Word) ≤ 13)) ∧ 12 < 13 ∧
    (∀ i : Fin 13, i.val < (1 : Word).toNat → (weirdActive.salt.set 0 0x20)[i].extractLsb' 0 5 = 0) := by decide +kernel

theorem witness_KeystreamReadsStoredSalt :
    12 < 13 ∧ weirdActive.saltLen ≠ 0 ∧ 13 ≤ ({ weirdActive with saltLen := 13 } : Active).saltLen := by decide

theorem witness_DecodeTableEntries :
    checkSetAdmitted defaultCheckSet = true ∧ isAlphabet canon.reverse = true ∧ isDigitByte 0x55 = false := by decide +kernel

theorem witness_DecodeTableFromCanonical :
    checkSetAdmitted defaultCheckSet = true ∧ isAlphabet canon.reverse = true ∧
    entryAt (buildDec defaultCheckSet canon) 0x7A = .digit (BitVec.ofNat 5 31) ∧
    entryAt (buildDec defaultCheckSet canon) 0x55 = .check ∧
    entryAt (buildDec defaultCheckSet canon) 0xFF = .invalid := by decide +kernel

theorem witness_LookAlikesFollowGlyph :
    checkSetAdmitted defaultCheckSet = true ∧ isAlphabet canon.reverse = true ∧
    canon.reverse[31] = 0x30 ∧ canon.reverse[30] = 0x31 ∧
    (0x7A : Byte) ∉ ([0x4F, 0x6F, 0x49, 0x69, 0x4C, 0x6C] : List Byte) := by decide +kernel

theorem witness_PackedTextReadsBack : 15 < 16 := by decide

/-- The folded bytes of the staged `REV`, index by index. -/
theorem revStaged_distinct :
    ∀ j, j < 32 → ∀ i, i < j → upper (textByte revStaged.perm i) ≠ upper (textByte revStaged.perm j) := by decide +kernel

theorem witness_ConfigureInstalls :
    (∀ i, i < 32 → isCanon (upper (textByte revStaged.perm i)) = true) ∧
    (∀ i j, i < j → j < 32 → upper (textByte revStaged.perm i) ≠ upper (textByte revStaged.perm j)) ∧
    revStaged.saltLen ≠ 0 :=
  ⟨by decide +kernel, fun i j hij hj => revStaged_distinct j hj i hij, by decide⟩

/-- V25 (index 0, not canonical) and V23 (index 1, a repeated byte). -/
theorem witness_ConfigureReportsFirstBadByte :
    (pending .configure (perm0Staged 0x3332316F 1)).pend = some .configure ∧
    isCanon (upper (textByte (perm0Staged 0x3332316F 1).perm 0)) = false ∧
    (∀ j, j < 1 → isCanon (upper (textByte (perm0Staged 0x33323030 1).perm j)) = true ∧
      ∀ k, k < j → upper (textByte (perm0Staged 0x33323030 1).perm k) ≠ upper (textByte (perm0Staged 0x33323030 1).perm j)) ∧
    upper (textByte (perm0Staged 0x33323030 1).perm 0) = upper (textByte (perm0Staged 0x33323030 1).perm 1) := by
  decide +kernel

/-- V26: the last index, 31, with the byte 'U'. -/
theorem witness_ConfigureReportsFirstBadByte_last :
    (∀ j, j < 31 → isCanon (upper (textByte (State.reset.perm.set 7 0x55595857) j)) = true ∧
      ∀ k, k < j → upper (textByte (State.reset.perm.set 7 0x55595857) k) ≠
        upper (textByte (State.reset.perm.set 7 0x55595857) j)) ∧
    isCanon (upper (textByte (State.reset.perm.set 7 0x55595857) 31)) = false := by decide +kernel

/-- V27: a good alphabet with `SALT_LEN = 0`. -/
theorem witness_ConfigureRejectsEmptySalt :
    (pending .configure (unsalted revStaged)).pend = some .configure ∧
    (∀ i, i < 32 → isCanon (upper (textByte (unsalted revStaged).perm i)) = true) ∧
    (∀ i j, i < j → j < 32 → upper (textByte (unsalted revStaged).perm i) ≠
      upper (textByte (unsalted revStaged).perm j)) ∧
    (unsalted revStaged).saltLen = 0 :=
  ⟨rfl, by decide +kernel, fun i j hij hj => revStaged_distinct j hj i hij, rfl⟩

theorem witness_ConfigureTwiceIsOnce : (pending .configure revStaged).pend = some .configure := rfl

/-- V2: the value `2^64 - 1`; V45: 1024, whose third digit is 0. -/
theorem witness_EncodeWritesDigits :
    12 < encodedLength (valued 0xFFFFFFFF 0xFFFFFFFF).value ∧ 2 < encodedLength (valued 1024 0).value ∧
    encodedLength (valued 0 0).value ≤ 1 ∧ encodedLength (valued 0xFFFFFFFF 0xFFFFFFFF).value ≤ 13 ∧
    (valued 1024 0).value ≠ 0 ∧ encodedLength (valued 0 0x10000000).value = 13 := by decide +kernel

/-- V41 (11 shifts) and V50 (none). -/
theorem witness_SkipLoopEnds :
    ((1 : Value) ≠ 0 ∧ (1 : Value).extractLsb' 60 4 = 0#4) ∧
    ((0x0FFFFFFFFFFFFFFF : Value) ≠ 0 ∧ (0x0FFFFFFFFFFFFFFF : Value).extractLsb' 60 4 = 0#4) := by decide

theorem witness_MarkerIndependence : (0x1 : BitVec 4) ≠ 0 ∧ (0xF : BitVec 4) ≠ 0 := by decide

/-- Two blocks that differ in their inputs to the other commands. -/
theorem witness_EncodeDependsOnOperandsOnly :
    encoded.valLo = busy.valLo ∧ encoded.valHi = busy.valHi ∧ encoded.active.perm = busy.active.perm ∧
    encoded.active.salt = busy.active.salt ∧ encoded.active.saltLen = busy.active.saltLen ∧ encoded ≠ busy := by
  refine ⟨rfl, rfl, rfl, rfl, rfl, fun h => ?_⟩
  have := congrArg (fun s => s.pend.isSome) h
  simp [encoded, busy, pending, valued, State.start, State.reset, State.resetWith] at this

/-- V12. -/
theorem witness_DecodeRejectsEmptyInput :
    (pending .decode (texted 0 0 0 0 0)).pend = some .decode ∧ (pending .decode (texted 0 0 0 0 0)).inLen = 0 := ⟨rfl, rfl⟩

/-- V13, and the largest length. -/
theorem witness_DecodeRejectsLongInput :
    (pending .decode (texted 14 0 0 0 0)).pend = some .decode ∧ 14 ≤ (pending .decode (texted 14 0 0 0 0)).inLen.toNat ∧
    14 ≤ (pending .decode (texted 0xFFFFFFFF 0 0 0 0)).inLen.toNat := by decide

/-- V14: byte 2 is INVALID after two digits. -/
theorem witness_DecodeReportsFirstBadByte_invalid :
    badText.pend = some .decode ∧ 2 < badText.inLen.toNat ∧ badText.inLen.toNat ≤ 13 ∧
    (∀ j, j < 2 → (codedAt badText.active badText.inText j).isSome = true) ∧
    entryAt badText.active.dec (textByte badText.inText 2) = .invalid := by decide +kernel

/-- A check digit at position 12 of 13 bytes. -/
theorem witness_DecodeReportsFirstBadByte_check :
    (∀ j, j < 12 → (codedAt State.reset.active #v[0x30303030, 0x30303030, 0x30303030, 0x2A] j).isSome = true) ∧
    entryAt State.reset.active.dec (textByte #v[0x30303030, 0x30303030, 0x30303030, (0x2A : Word)] 12) = .check := by
  decide +kernel

/-- V63 (one byte) and V58 (thirteen bytes). -/
theorem witness_DecodeWritesValue :
    (1 ≤ (texted 1 0x61 0 0 0).inLen.toNat ∧ (texted 1 0x61 0 0 0).inLen.toNat ≤ 13 ∧
      (∀ j, j < 1 → (codedAt State.reset.active (texted 1 0x61 0 0 0).inText j).isSome = true)) ∧
    ((texted 13 0x5A5A5A5A 0x5A5A5A5A 0x5A5A5A5A 0x5A).inLen.toNat ≤ 13 ∧
      (∀ j, j < 13 → (codedAt State.reset.active (texted 13 0x5A5A5A5A 0x5A5A5A5A 0x5A5A5A5A 0x5A).inText j).isSome = true)) := by
  decide +kernel

/-- Two texts that differ in bytes 13 to 15 alone. -/
theorem witness_DecodeReadsInputBytesOnly :
    ∀ i, i < (13 : Word).toNat → i < 13 →
      textByte #v[0x30303030, 0x30303030, 0x30303030, (0x30 : Word)] i =
        textByte #v[0x30303030, 0x30303030, 0x30303030, (0xFFFFFF30 : Word)] i := by decide +kernel

/-- V61: "0001", three leading zero digits of four. -/
theorem witness_DecodeAcceptsNonMinimal_leading :
    1 ≤ (texted 4 0x31303030 0 0 0).inLen.toNat ∧ (texted 4 0x31303030 0 0 0).inLen.toNat ≤ 13 ∧
    (∀ j, j < (texted 4 0x31303030 0 0 0).inLen.toNat →
      (codedAt State.reset.active (texted 4 0x31303030 0 0 0).inText j).isSome = true) ∧
    3 < (texted 4 0x31303030 0 0 0).inLen.toNat ∧
    (∀ i, i < 3 → recoveredDigit State.reset.active (texted 4 0x31303030 0 0 0).inText i = 0) ∧
    (texted 4 0x31303030 0 0 0).inLen.toNat ≤ 12 := by decide +kernel

/-- V59: "G000000000000", 13 symbols with a first true digit of 16. -/
theorem witness_DecodeAcceptsNonMinimal_wrapping :
    (texted 13 0x30303047 0x30303030 0x30303030 0x30).inLen.toNat = 13 ∧
    (∀ j, j < 13 → (codedAt State.reset.active (texted 13 0x30303047 0x30303030 0x30303030 0x30).inText j).isSome = true) ∧
    recoveredDigit State.reset.active (texted 13 0x30303047 0x30303030 0x30303030 0x30).inText 0 = 16 := by decide +kernel

theorem witness_DecodeOfEncodedText :
    checkSetAdmitted encoded.params.checkSet = true ∧ ConfigurationValid encoded :=
  ⟨encoded_inv.params, encoded_inv.configuration⟩

end Sys2Proof.Tests
end

-- ==== Proofs: what one step can do ====
section
/-! PROOFS. What a step that answers can do, said once: the three agents (10_state.md R20), the effect of a host
transaction, and the completions. The statements about single registers follow from it. -/

namespace Sys2Proof.Machine

/-! ### A host transaction -/

/-- The effects a host transaction can have on the block. -/
inductive HostEffect (s : State) : State → Prop where
  /-- Its address lies outside the window (R68). -/
  | outside : HostEffect s s
  /-- It is answered and changes no register: a read, or an access that is not served (R61, R66). -/
  | answered (r : Response) : HostEffect s (s.respond r)
  /-- It is a served write (R101). -/
  | written (reg : Reg) (data : Word) : HostEffect s ((writeReg s reg data).respond (.write false))

theorem execRd_hostEffect {s t : State} {off : BitVec 8} {size : Size} (h : execRd off size s = .next t) :
    HostEffect s t := by
  cases h
  exact .answered _

theorem execWr_hostEffect {s t : State} {off : BitVec 8} {data : Word} {size : Size}
    (h : execWr off data size s = .next t) : HostEffect s t := by
  cases h
  rcases busWrite_cases s off data size with ⟨-, hw⟩ | ⟨-, hw⟩ <;> rw [hw]
  · exact .answered _
  · exact .written _ _

theorem exec_decodeHop_hostEffect {s t : State} {w : Hop} (h : exec (decodeHop w) s = .next t) : HostEffect s t := by
  unfold decodeHop at h
  split at h
  · exact execWr_hostEffect h
  · exact execRd_hostEffect h

theorem exec_instrAt_hostEffect {s t : State} {tr : Transaction} {off : BitVec 8}
    (h : exec (tr.instrAt off) s = .next t) : HostEffect s t := by
  unfold Transaction.instrAt at h
  split at h
  · exact execRd_hostEffect h
  · exact execWr_hostEffect h

theorem runEvent_bus_hostEffect {s t : State} {tr : Transaction} (h : runEvent (.bus tr) s = .next t) :
    HostEffect s t := by
  simp only [runEvent, Transaction.instr] at h
  cases hoff : windowOffset s.params tr.addr with
  | none =>
    rw [hoff] at h
    cases h
    exact .outside
  | some off =>
    rw [hoff] at h
    exact exec_instrAt_hostEffect h

/-- The frame of a host transaction: the result registers, the configuration and the parameters. -/
structure HostKeeps (s t : State) : Prop where
  results : SameResults s t
  active : t.active = s.active
  params : t.params = s.params

/-- No host transaction changes a result register, the configuration or a parameter (R74, R110). -/
theorem HostEffect.keeps {s t : State} (h : HostEffect s t) : HostKeeps s t := by
  cases h with
  | outside => exact ⟨⟨rfl, rfl, rfl, rfl, rfl⟩, rfl, rfl⟩
  | answered r => exact ⟨⟨rfl, rfl, rfl, rfl, rfl⟩, rfl, rfl⟩
  | written reg data =>
    obtain ⟨⟨hlo, hhi, hlen, htext, hinfo⟩, hactive, hparams, -, -⟩ := writeReg_keeps s reg data
    exact ⟨⟨hlo, hhi, hlen, htext, hinfo⟩, hactive, hparams⟩

/-! ### The engine's turn -/

/-- The effects the engine's turn can have, each with the command it completes. -/
inductive EngineEffect (s : State) : State → Prop where
  /-- No command is pending (R106). -/
  | idle (hp : s.pend = none) : EngineEffect s s
  | encoded (hp : s.pend = some .encode) :
      EngineEffect s (complete (s.setOutput (encodeText s.active s.value)))
  | decoded (hp : s.pend = some .decode) (v : Value) : EngineEffect s (complete (s.setResult v))
  | decodeFailed (hp : s.pend = some .decode) (f : Failure) (hf : decodeText s.active s.inLen s.inText = .error f) :
      EngineEffect s (fail s f)
  | configured (hp : s.pend = some .configure) (hf : configureFailure s = none) :
      EngineEffect s (complete (s.install (stagedConfiguration s)))
  | configureFailed (hp : s.pend = some .configure) (f : Failure) (hf : configureFailure s = some f) :
      EngineEffect s (fail s f)
  | illegalFailed (hp : s.pend = some .illegal) : EngineEffect s (fail s { code := .illegalCommand })

theorem engineTurn_engineEffect {s t : State} (h : engineTurn s = .next t) : EngineEffect s t := by
  rcases engineTurn_cases s with ⟨hp, he⟩ | ⟨hp, he⟩ | ⟨hp, he⟩ | ⟨hp, he⟩ | ⟨hp, he⟩ <;> rw [he] at h
  · cases h
    exact .idle hp
  · cases h
    exact .encoded hp
  · rcases execDecode_cases s with ⟨f, hf, hx⟩ | ⟨v, -, hx⟩ <;> rw [hx] at h <;> cases h
    · exact .decodeFailed hp f hf
    · exact .decoded hp v
  · rcases execConfigure_cases s with ⟨f, hf, hx⟩ | ⟨hf, hx⟩ <;> rw [hx] at h <;> cases h
    · exact .configureFailed hp f hf
    · exact .configured hp hf
  · cases h
    exact .illegalFailed hp

/-- No completion changes a parameter. -/
theorem EngineEffect.params_eq {s t : State} (h : EngineEffect s t) : t.params = s.params := by
  cases h <;> rfl

/-- The engine changes the configuration only by completing a `CONFIGURE` without an error (R140). -/
theorem EngineEffect.active_eq_or {s t : State} (h : EngineEffect s t) :
    t.active = s.active ∨ (s.pend = some .configure ∧ t.status.err = false) := by
  cases h with
  | configured hp _ => exact .inr ⟨hp, by simp⟩
  | idle | encoded | decoded | decodeFailed | configureFailed | illegalFailed => exact .inl rfl

/-- The engine changes the decoded result only by completing a `DECODE` (R29). -/
theorem EngineEffect.result_eq_or {s t : State} (h : EngineEffect s t) :
    (t.resLo = s.resLo ∧ t.resHi = s.resHi) ∨ s.pend = some .decode := by
  cases h with
  | decoded hp | decodeFailed hp => exact .inr hp
  | configureFailed hp | illegalFailed hp => exact .inl (by simp [hp])
  | idle | encoded | configured => exact .inl ⟨rfl, rfl⟩

/-- The engine changes the encoded text only by completing an `ENCODE` (R32, R33). -/
theorem EngineEffect.output_eq_or {s t : State} (h : EngineEffect s t) :
    (t.outLen = s.outLen ∧ t.outText = s.outText) ∨ s.pend = some .encode := by
  cases h with
  | encoded hp => exact .inr hp
  | idle | decoded | decodeFailed | configured | configureFailed | illegalFailed => exact .inl ⟨rfl, rfl⟩

/-! ### One step -/

/-- The state with the next event, if there is one, taken off the schedule. -/
def State.dropEvent (s : State) : State := { s with schedule := s.schedule.tail }

section
variable (s : State)

@[simp] theorem State.dropEvent_status : s.dropEvent.status = s.status := rfl
@[simp] theorem State.dropEvent_errInfo : s.dropEvent.errInfo = s.errInfo := rfl
@[simp] theorem State.dropEvent_resLo : s.dropEvent.resLo = s.resLo := rfl
@[simp] theorem State.dropEvent_resHi : s.dropEvent.resHi = s.resHi := rfl
@[simp] theorem State.dropEvent_outLen : s.dropEvent.outLen = s.outLen := rfl
@[simp] theorem State.dropEvent_outText : s.dropEvent.outText = s.outText := rfl
@[simp] theorem State.dropEvent_active : s.dropEvent.active = s.active := rfl
@[simp] theorem State.dropEvent_pend : s.dropEvent.pend = s.pend := rfl
@[simp] theorem State.dropEvent_params : s.dropEvent.params = s.params := rfl

end

theorem State.dropEvent_of_nil {s : State} (h : s.schedule = []) : s.dropEvent = s := by
  cases s
  cases h
  rfl

/-- Whose turn a step is, and what that agent does. -/
inductive StepEffect (s : State) : State → Prop where
  | engine {t : State} (hn : engineIsNext s) (h : EngineEffect s.dropEvent t) : StepEffect s t
  | host {t : State} (hn : hostIsNext s) (h : HostEffect s.dropEvent t) : StepEffect s t
  | reset (hn : resetIsNext s) : StepEffect s s.dropEvent.resetBlock

/-- Every step is a turn of the engine, a transaction of the host, or reset (R60). -/
theorem step_stepEffect {s t : State} (h : step s = .next t) : StepEffect s t := by
  rcases step_cases s with ⟨hs, hstep⟩ | ⟨e, rest, hs, hstep⟩ <;> rw [hstep] at h
  · exact .engine (.inl hs) (by rw [State.dropEvent_of_nil hs]; exact engineTurn_engineEffect h)
  · have hhead : s.schedule.head? = some e := by rw [hs]; rfl
    have hdrop : { s with schedule := rest } = s.dropEvent := by rw [State.dropEvent, hs]; rfl
    rw [hdrop] at h
    cases e with
    | hop w => exact .host (.inl ⟨w, hhead⟩) (exec_decodeHop_hostEffect h)
    | bus tr => exact .host (.inr ⟨tr, hhead⟩) (runEvent_bus_hostEffect h)
    | engine => exact .engine (.inr hhead) (engineTurn_engineEffect h)
    | reset =>
      cases h
      exact .reset hhead

/-! ### What only one agent changes -/

/-- Settles O16. -/
theorem stepKeepsParameters : Obligations.StepKeepsParameters := by
  unfold Obligations.StepKeepsParameters
  intro s t hstep
  cases step_stepEffect hstep with
  | engine _ he => exact he.params_eq
  | host _ hh => exact hh.keeps.params
  | reset _ => rfl

/-- Settles O32. -/
theorem onlyConfigureChangesConfiguration : Obligations.OnlyConfigureChangesConfiguration := by
  unfold Obligations.OnlyConfigureChangesConfiguration
  intro s t hstep hne
  cases step_stepEffect hstep with
  | engine hn he =>
    obtain hsame | ⟨hp, herr⟩ := he.active_eq_or
    · exact absurd hsame hne
    · exact .inl ⟨hn, hp, herr⟩
  | host _ hh => exact absurd hh.keeps.active hne
  | reset hn => exact .inr hn

/-- Settles O33. -/
theorem onlyOwnCompletionWritesResults : Obligations.OnlyOwnCompletionWritesResults := by
  unfold Obligations.OnlyOwnCompletionWritesResults
  intro s t hstep hnoReset
  cases step_stepEffect hstep with
  | engine hn he =>
    constructor
    · intro hne
      obtain ⟨hlo, hhi⟩ | hp := he.result_eq_or
      · exact absurd hne (by simp [hlo, hhi])
      · exact ⟨hn, hp⟩
    · intro hne
      obtain ⟨hlen, htext⟩ | hp := he.output_eq_or
      · exact absurd hne (by simp [hlen, htext])
      · exact ⟨hn, hp⟩
  | host _ hh =>
    obtain ⟨hlo, hhi, hlen, htext, -⟩ := hh.keeps.results
    simp [hlo, hhi, hlen, htext]
  | reset hn => exact absurd hn hnoReset

end Sys2Proof.Machine
end

-- ==== Proofs: the texts of ENCODE, the reports of DECODE and CONFIGURE ====
section
/-! PROOFS. What the invariant needs of the commands: the encoded text is at most 13 canonical symbols (42_encode.md R167),
every failure reports a position of its input (60_exceptions.md R200), and an alphabet that passes the check of
`CONFIGURE` is a permutation of `CANON` (41_configure.md R139). -/

namespace Sys2Proof.Machine

/-! ### The text of ENCODE -/

/-- An alphabet is 32 pairwise distinct canonical symbols (R48 (a), R135). -/
theorem isAlphabet_iff (p : Vector Byte 32) :
    isAlphabet p = true ↔ (∀ b ∈ p.toList, isCanon b = true) ∧ p.toList.Nodup := by
  rw [isAlphabet, Bool.and_eq_true, List.all_eq_true, decide_eq_true_iff]

/-- Every symbol the configuration can emit is canonical. -/
theorem isCanon_symbol {a : Active} (h : isAlphabet a.perm = true) (d : Digit) : isCanon (a.symbol d) = true := by
  obtain ⟨hcanon, -⟩ := (isAlphabet_iff _).mp h
  exact hcanon _ (Vector.mem_toList_iff.mpr (Vector.getElem_mem d.isLt))

/-- A list of canonical symbols. -/
def CanonText (out : List Byte) : Prop := ∀ b ∈ out, isCanon b = true

theorem CanonText.nil : CanonText [] := by simp [CanonText]

theorem length_emit (a : Active) (out : List Byte) (d : Digit) : (emit a out d).length = out.length + 1 := by
  simp [emit]

theorem CanonText.emit {a : Active} (ha : isAlphabet a.perm = true) {out : List Byte} (h : CanonText out) (d : Digit) :
    CanonText (emit a out d) := by
  intro b hb
  obtain hb | rfl : b ∈ out ∨ b = a.symbol (d ^^^ a.keystream out.length) := by simpa [Machine.emit] using hb
  · exact h b hb
  · exact isCanon_symbol ha _

theorem CanonText.emitLoop {a : Active} (ha : isAlphabet a.perm = true) (stop : Value) (k : Nat) (w : Value)
    {out : List Byte} (h : CanonText out) : CanonText (emitLoop a stop k w out) := by
  induction k generalizing w out with
  | zero => exact h
  | succ k ih =>
    unfold Machine.emitLoop
    split
    · exact h
    · exact ih _ (h.emit ha _)

/-- The emit loop ends within its bound. -/
theorem length_emitLoop_le (a : Active) (stop : Value) (k : Nat) (w : Value) (out : List Byte) :
    (emitLoop a stop k w out).length ≤ out.length + k := by
  induction k generalizing w out with
  | zero => exact Nat.le_refl _
  | succ k ih =>
    unfold emitLoop
    split
    · omega
    · have hrest := ih (w <<< 5) (emit a out (topQuintet w))
      rw [length_emit] at hrest
      omega

/-- The emit loop ends at the latest where `m` shifts have brought the marker to the top. -/
theorem length_emitLoop_le_of_stop (a : Active) {stop : Value} (k m : Nat) {w : Value} (out : List Byte)
    (h : w <<< (5 * m) = stop) : (emitLoop a stop k w out).length ≤ out.length + m := by
  induction k generalizing w out m with
  | zero => simp [emitLoop]
  | succ k ih =>
    unfold emitLoop
    split
    · omega
    · next hne =>
      cases m with
      | zero => exact absurd (by simpa using h) hne
      | succ m =>
        have hshift : (w <<< 5) <<< (5 * m) = stop := by rw [← BitVec.shiftLeft_add, ← h]; congr 1; omega
        have hrest := ih m (emit a out (topQuintet w)) hshift
        rw [length_emit] at hrest
        omega

/-- Twelve shifts leave nothing of the value and the marker at the top (R161). -/
theorem loadMarked_shift_sixty (marker : BitVec 4) (v : Value) :
    loadMarked marker v <<< (5 * 12) = stopValue marker := by
  rw [loadMarked, BitVec.shiftLeft_or_distrib, ← BitVec.shiftLeft_add, BitVec.shiftLeft_eq_zero (by omega),
    BitVec.zero_or, stopValue]

theorem length_encodeText_le (a : Active) (v : Value) : (encodeText a v).length ≤ 13 := by
  unfold encodeText encodeWith
  split
  · rw [length_emit]
    simp
  · split
    · have hloop := length_emitLoop_le_of_stop a 13 12 (emit a [] ((topGroup v).setWidth 5))
        (loadMarked_shift_sixty stopMarker v)
      rwa [length_emit] at hloop
    · exact length_emitLoop_le a _ 13 _ []

theorem canonText_encodeText {a : Active} (ha : isAlphabet a.perm = true) (v : Value) : CanonText (encodeText a v) := by
  unfold encodeText encodeWith
  split
  · exact CanonText.nil.emit ha _
  · split
    · exact (CanonText.nil.emit ha _).emitLoop ha _ _ _
    · exact CanonText.nil.emitLoop ha _ _ _

/-! ### A text in its registers -/

theorem packText_getElem (bs : List Byte) (k : Nat) (h : k < 4) : (packText bs)[k] = packWord bs k := by
  match k with
  | 0 | 1 | 2 | 3 => rfl

/-- Byte `i` of a packed text, `0x00` past its end (R85, R166). -/
theorem textByte_packText (bs : List Byte) (i : Nat) (h : i < 16) : textByte (packText bs) i = bs.getD i 0#8 := by
  have hreg : i / 4 < 4 := by omega
  have hbyte : i % 4 < 4 := by omega
  rw [textByte_of_lt _ _ hreg, packText_getElem, packWord_byte _ _ _ hbyte, Nat.div_add_mod]

/-- A text of at most 13 canonical symbols makes coherent output registers. -/
theorem OutputCoherent.of_setOutput {s : State} {out : List Byte} (hcanon : CanonText out) (hlen : out.length ≤ 13) :
    OutputCoherent (s.setOutput out) := by
  have hnat : (s.setOutput out).outLen.toNat = out.length := by simp; omega
  refine ⟨?_, fun i hi => ?_, fun i hi hi16 => ?_⟩
  · rw [BitVec.le_def, hnat]
    exact hlen
  · rw [hnat] at hi
    rw [State.setOutput_outText, textByte_packText _ _ (by omega), List.getD_eq_getElem _ _ hi]
    exact hcanon _ (List.getElem_mem hi)
  · rw [hnat] at hi
    rw [State.setOutput_outText, textByte_packText _ _ hi16, List.getD_eq_default _ _ hi]
    rfl

/-! ### Reports -/

/-- A failure reports a position of its input: 0 to 12 for a digit, 0 to 31 for an alphabet, else nothing (R200). -/
structure Failure.Coherent (f : Failure) : Prop where
  digitPos : f.code = .invalidDigit ∨ f.code = .checkDigitUnsupported → f.pos ≤ 12
  alphabetPos : f.code = .badAlphabet → f.pos ≤ 31
  noPos : f.code ≠ .invalidDigit → f.code ≠ .checkDigitUnsupported → f.code ≠ .badAlphabet → f.pos = 0 ∧ f.byte = 0

/-- A failure without a position. -/
theorem Failure.Coherent.plain {c : ErrorCode} : Failure.Coherent { code := c } := by
  constructor <;> simp

theorem ofNat_byte_le {i n : Nat} (h : i ≤ n) (hn : n < 256) : BitVec.ofNat 8 i ≤ BitVec.ofNat 8 n := by
  rw [BitVec.le_def, BitVec.toNat_ofNat, BitVec.toNat_ofNat, Nat.mod_eq_of_lt (by omega), Nat.mod_eq_of_lt (by omega)]
  exact h

/-- A failure at one of the first 13 input bytes. -/
theorem Failure.Coherent.digit {c : ErrorCode} (hc : c = .invalidDigit ∨ c = .checkDigitUnsupported) {i : Nat}
    (hi : i ≤ 12) (b : Byte) : Failure.Coherent { code := c, pos := BitVec.ofNat 8 i, byte := b } := by
  refine ⟨fun _ => ofNat_byte_le (n := 12) hi (by omega), ?_, ?_⟩ <;> rcases hc with rfl | rfl <;> simp

/-- A failure at one of the 32 staged alphabet bytes. -/
theorem Failure.Coherent.alphabet {i : Nat} (hi : i ≤ 31) (b : Byte) :
    Failure.Coherent { code := .badAlphabet, pos := BitVec.ofNat 8 i, byte := b } :=
  ⟨by simp, fun _ => ofNat_byte_le (n := 31) hi (by omega), by simp⟩

theorem decodeLoop_error_coherent {a : Active} {text : Vector Word 4} {k i : Nat} {acc place : Value} {f : Failure}
    (hk : i + k ≤ 13) (h : decodeLoop a text k i acc place = .error f) : f.Coherent := by
  induction k generalizing i acc place with
  | zero => cases h
  | succ k ih =>
    unfold decodeLoop at h
    split at h
    · cases h
      exact .digit (.inl rfl) (by omega) _
    · cases h
      exact .digit (.inr rfl) (by omega) _
    · exact ih (by omega) h

theorem decodeText_error_coherent {a : Active} {len : Word} {text : Vector Word 4} {f : Failure}
    (h : decodeText a len text = .error f) : f.Coherent := by
  unfold decodeText at h
  split at h
  · cases h
    exact .plain
  · split at h
    · cases h
      exact .plain
    · next hlong =>
      have hlen : len.toNat ≤ 13 := by simpa [BitVec.lt_def] using hlong
      exact decodeLoop_error_coherent (by omega) h

/-! ### The check of CONFIGURE -/

theorem configureFailure_coherent {s : State} {f : Failure} (h : configureFailure s = some f) : f.Coherent := by
  unfold configureFailure at h
  split at h
  · next i hbad =>
    have hi : i < 32 := List.mem_range.mp (List.mem_of_find?_eq_some hbad)
    cases h
    exact .alphabet (by omega) _
  · split at h
    · cases h
      exact .plain
    · cases h

/-- The check passes exactly when no index is refused and the salt length is not 0. -/
theorem configureFailure_eq_none_iff (s : State) :
    configureFailure s = none ↔ firstBadIndex s.perm = none ∧ s.saltLen ≠ 0 := by
  unfold configureFailure
  cases firstBadIndex s.perm <;> simp

/-- An index is accepted when its folded byte is canonical and new. -/
theorem badAlphabetAt_eq_false_iff (perm : Vector Word 8) (i : Nat) :
    badAlphabetAt perm i = false ↔
      isCanon (foldedByte perm i) = true ∧ ∀ j, j < i → foldedByte perm j ≠ foldedByte perm i := by
  simp [badAlphabetAt]

theorem foldedAlphabet_toList (perm : Vector Word 8) :
    (foldedAlphabet perm).toList = List.ofFn fun i : Fin 32 => foldedByte perm i :=
  Vector.toList_ofFn

/-- An alphabet without a refused index is a permutation of `CANON` (R139). -/
theorem isAlphabet_foldedAlphabet {perm : Vector Word 8} (h : firstBadIndex perm = none) :
    isAlphabet (foldedAlphabet perm) = true := by
  have hgood : ∀ i < 32, isCanon (foldedByte perm i) = true ∧ ∀ j, j < i → foldedByte perm j ≠ foldedByte perm i := by
    intro i hi
    rw [← badAlphabetAt_eq_false_iff]
    simpa using List.find?_eq_none.mp h i (List.mem_range.mpr hi)
  have hcanon : ∀ b ∈ (foldedAlphabet perm).toList, isCanon b = true := by
    intro b hb
    rw [foldedAlphabet_toList, List.mem_ofFn] at hb
    obtain ⟨i, rfl⟩ := hb
    exact (hgood i i.isLt).1
  have hnodup : (foldedAlphabet perm).toList.Nodup := by
    rw [foldedAlphabet_toList, List.nodup_ofFn]
    intro i j hij
    obtain hlt | heq | hgt := lt_trichotomy i j
    · exact absurd hij ((hgood j j.isLt).2 i hlt)
    · exact heq
    · exact absurd hij.symm ((hgood i i.isLt).2 j hgt)
  exact (isAlphabet_iff _).mpr ⟨hcanon, hnodup⟩

end Sys2Proof.Machine
end

-- ==== Proofs: the invariant ====
section
/-! PROOFS. The invariant of the block holds at reset and every step keeps it (10_state.md R42, R48). Each part of it is
kept by whatever leaves its own fields alone, and by each command that writes them. -/

namespace Sys2Proof.Machine

/-! ### Each part depends on few fields -/

theorem ConfigurationValid.of_eq {s t : State} (h : ConfigurationValid s) (hactive : t.active = s.active)
    (hparams : t.params = s.params) : ConfigurationValid t := by
  obtain ⟨halphabet, htable, hsalt⟩ := h
  constructor <;> rw [hactive]
  · exact halphabet
  · rw [hparams, htable]
  · exact hsalt

theorem SequencingCoherent.of_eq {s t : State} (h : SequencingCoherent s) (hstatus : t.status = s.status)
    (hpend : t.pend = s.pend) : SequencingCoherent t := by
  obtain ⟨hbusy, hdone, herr⟩ := h
  constructor <;> rwa [hstatus, hpend]

theorem OutputCoherent.of_eq {s t : State} (h : OutputCoherent s) (hlen : t.outLen = s.outLen)
    (htext : t.outText = s.outText) : OutputCoherent t := by
  obtain ⟨hlength, hsymbols, hfill⟩ := h
  constructor <;> rw [hlen]
  · exact hlength
  · rwa [htext]
  · rwa [htext]

/-- The flags of one state follow those of another: a pending command, `ERR` and `DONE` mean no more than they did. -/
structure FlagsFollow (s t : State) : Prop where
  sequencing : SequencingCoherent s → SequencingCoherent t
  err : t.status.err = true → s.status.err = true
  done : t.status.done = true → s.status.done = true ∧ t.status.err = s.status.err

theorem FlagsFollow.of_eq {s t : State} (hstatus : t.status = s.status) (hpend : t.pend = s.pend) :
    FlagsFollow s t where
  sequencing := fun hs => hs.of_eq hstatus hpend
  err := by simp [hstatus]
  done := by simp [hstatus]

/-- `ERRINFO` stays a coherent report while it is not written and the flags follow. -/
theorem ReportCoherent.of_flagsFollow {s t : State} (h : ReportCoherent s) (hinfo : t.errInfo = s.errInfo)
    (hflags : FlagsFollow s t) : ReportCoherent t := by
  obtain ⟨hcode, hdigit, halphabet, hnoPos, herr, hdone⟩ := h
  constructor <;> rw [hinfo]
  · exact hcode
  · exact hdigit
  · exact halphabet
  · exact hnoPos
  · exact fun ht => herr (hflags.err ht)
  · intro ht hne
    obtain ⟨hs, herrEq⟩ := hflags.done ht
    exact herrEq.trans (hdone hs hne)

/-- What the host may do keeps the invariant: the results, the configuration and the parameters stay, the flags follow. -/
theorem Inv.of_hostKeeps {s t : State} (h : Inv s) (hkeeps : HostKeeps s t) (hflags : FlagsFollow s t) : Inv t := by
  obtain ⟨⟨-, -, hlen, htext, hinfo⟩, hactive, hparams⟩ := hkeeps
  exact
    { params := by rw [hparams]; exact h.params
      configuration := h.configuration.of_eq hactive hparams
      sequencing := hflags.sequencing h.sequencing
      report := h.report.of_flagsFollow hinfo hflags
      output := h.output.of_eq hlen htext }

/-! ### Reset -/

/-- The canonical alphabet is an alphabet (R130). -/
theorem isAlphabet_canon : isAlphabet canon = true := by decide +kernel

theorem resetWith_configurationValid (p : Params) : ConfigurationValid (State.resetWith p) where
  alphabet := isAlphabet_canon
  table := rfl
  saltLen := by simp [State.resetWith, Active.reset]

theorem resetWith_outputCoherent (p : Params) : OutputCoherent (State.resetWith p) where
  length := by simp [State.resetWith]
  symbols := fun i hi => absurd hi (by simp [State.resetWith])
  fill := fun i _ hi => by
    have hreg : i / 4 < 4 := by omega
    simp [State.resetWith, textByte_of_lt _ _ hreg]

/-- Settles O14. -/
theorem invariantAtReset : Obligations.InvariantAtReset := by
  unfold Obligations.InvariantAtReset
  intro p hp
  exact
    { params := hp
      configuration := resetWith_configurationValid p
      sequencing := by constructor <;> simp [State.resetWith]
      report := by constructor <;> simp [State.resetWith]
      output := resetWith_outputCoherent p }

/-- The reset event leads to a good state whatever it interrupts (R230). -/
theorem Inv.resetBlock {s : State} (h : Inv s) : Inv s.resetBlock :=
  (invariantAtReset s.params h.params).of_hostKeeps ⟨⟨rfl, rfl, rfl, rfl, rfl⟩, rfl, rfl⟩ (.of_eq rfl rfl)

/-! ### The host -/

theorem flagsFollow_statusWrite (s : State) (data : Word) : FlagsFollow s { s with status := s.status.write data } where
  sequencing := fun ⟨hbusy, hdone, herr⟩ => ⟨hbusy, fun hp => by simp [hdone hp], herr⟩
  err := fun h => h
  done := fun h => by
    obtain ⟨hdone, -⟩ : s.status.done = true ∧ data.getLsbD 1 = false := by simpa using h
    exact ⟨hdone, rfl⟩

theorem flagsFollow_markDropped (s : State) : FlagsFollow s s.markDropped where
  sequencing := fun ⟨hbusy, hdone, herr⟩ => ⟨hbusy, hdone, herr⟩
  err := fun h => h
  done := fun h => ⟨h, rfl⟩

/-- Acceptance clears `DONE` and `ERR` and sets `BUSY` (R105). -/
theorem flagsFollow_start (s : State) (c : Command) : FlagsFollow s (s.start c) where
  sequencing := fun _ => ⟨rfl, fun _ => rfl, fun _ => rfl⟩
  err := by simp
  done := by simp

theorem flagsFollow_writeReg (s : State) (r : Reg) (data : Word) : FlagsFollow s (writeReg s r data) := by
  rcases writeReg_cases s r data with ⟨-, h⟩ | ⟨-, h⟩ | ⟨-, -, h⟩ | ⟨-, -, h⟩ | ⟨-, -, h⟩ | ⟨-, -, h⟩ <;> rw [h]
  · exact flagsFollow_statusWrite s data
  · exact .of_eq rfl rfl
  · exact flagsFollow_markDropped s
  · rcases accept_cases s data with ⟨-, ha⟩ | ⟨-, c, ha⟩ <;> rw [ha]
    · exact .of_eq rfl rfl
    · exact flagsFollow_start s c
  · exact .of_eq (setReg_status s r data) (setReg_pend s r data)
  · exact .of_eq rfl rfl

theorem HostEffect.flagsFollow {s t : State} (h : HostEffect s t) : FlagsFollow s t := by
  cases h with
  | outside => exact .of_eq rfl rfl
  | answered r => exact .of_eq rfl rfl
  | written reg data =>
    obtain ⟨hseq, herr, hdone⟩ := flagsFollow_writeReg s reg data
    exact ⟨fun hs => (hseq hs).of_eq rfl rfl, herr, hdone⟩

/-! ### The engine -/

/-- A success completion leaves the flags and the report of a success (R204). -/
theorem Inv.complete {s : State} (hparams : checkSetAdmitted s.params.checkSet = true)
    (hconfiguration : ConfigurationValid s) (houtput : OutputCoherent s) : Inv (complete s) where
  params := hparams
  configuration := hconfiguration.of_eq rfl rfl
  sequencing := by constructor <;> simp
  report := by constructor <;> simp
  output := houtput.of_eq rfl rfl

theorem ErrorCode.bits_injective : Function.Injective ErrorCode.bits := by
  intro a b
  cases a <;> cases b <;> decide

/-- An error completion reports its failure (R205). -/
theorem fail_reportCoherent (s : State) {f : Failure} (hf : f.Coherent) : ReportCoherent (fail s f) where
  code := f.code.bits_le
  digitPos := fun h => hf.digitPos (h.imp (ErrorCode.bits_injective ·) (ErrorCode.bits_injective ·))
  alphabetPos := fun h => hf.alphabetPos (ErrorCode.bits_injective h)
  noPos := fun h3 h4 h5 => hf.noPos (fun h => h3 (congrArg ErrorCode.bits h)) (fun h => h4 (congrArg ErrorCode.bits h))
    (fun h => h5 (congrArg ErrorCode.bits h))
  err := fun _ => f.code.bits_ne_zero
  done := fun _ _ => rfl

/-- An error completion keeps the invariant if its report names a position of its input. -/
theorem Inv.fail {s : State} (h : Inv s) {f : Failure} (hf : f.Coherent) : Inv (fail s f) where
  params := h.params
  configuration := h.configuration.of_eq rfl rfl
  sequencing := by constructor <;> simp
  report := fail_reportCoherent s hf
  output := h.output.of_eq rfl rfl

/-- What CONFIGURE installs after its check is a valid configuration (R48, R140). -/
theorem ConfigurationValid.of_install {s : State} (hf : configureFailure s = none) :
    ConfigurationValid (s.install (stagedConfiguration s)) := by
  obtain ⟨hgood, hsalt⟩ := (configureFailure_eq_none_iff s).mp hf
  exact
    { alphabet := by simpa using isAlphabet_foldedAlphabet hgood
      table := by simp
      saltLen := by simpa using hsalt }

theorem Inv.of_engineEffect {s t : State} (h : Inv s) (he : EngineEffect s t) : Inv t := by
  have hcanon := canonText_encodeText h.configuration.alphabet s.value
  cases he with
  | idle _ => exact h
  | encoded _ =>
    exact .complete h.params (h.configuration.of_eq rfl rfl) (.of_setOutput hcanon (length_encodeText_le _ _))
  | decoded _ v => exact .complete h.params (h.configuration.of_eq rfl rfl) (h.output.of_eq rfl rfl)
  | decodeFailed _ f hf => exact h.fail (decodeText_error_coherent hf)
  | configured _ hf => exact .complete h.params (.of_install hf) (h.output.of_eq rfl rfl)
  | configureFailed _ f hf => exact h.fail (configureFailure_coherent hf)
  | illegalFailed _ => exact h.fail .plain

/-! ### One step -/

theorem Inv.dropEvent {s : State} (h : Inv s) : Inv s.dropEvent :=
  h.of_hostKeeps ⟨⟨rfl, rfl, rfl, rfl, rfl⟩, rfl, rfl⟩ (.of_eq rfl rfl)

/-- Settles O15: no agent of the block leads out of the invariant. -/
theorem stepKeepsInvariant : Obligations.StepKeepsInvariant := by
  unfold Obligations.StepKeepsInvariant
  intro s t h hstep
  cases step_stepEffect hstep with
  | engine _ he => exact h.dropEvent.of_engineEffect he
  | host _ hh => exact h.dropEvent.of_hostKeeps hh.keeps hh.flagsFollow
  | reset _ => exact h.dropEvent.resetBlock

end Sys2Proof.Machine
end

-- ==== Proofs: reserved offsets and read-only registers ====
section
/-! PROOFS. Reserved offsets and read-only registers (10_state.md R37, R38). -/

namespace Sys2Proof.Machine

/-- The registers and offsets a served write does nothing to: the read-only registers and the reserved offsets. -/
def Reg.ignoresWrites : Reg → Bool
  | .id | .errinfo | .resLo | .resHi | .outLen | .outText _ | .reserved => true
  | .ctrl | .status | .inten | .valLo | .valHi | .inLen | .saltLen | .inText _ | .salt _ | .perm _ => false

theorem writeReg_of_ignoresWrites (s : State) {r : Reg} (h : r.ignoresWrites = true) (data : Word) :
    writeReg s r data = s := by
  cases r with
  | id | errinfo | resLo | resHi | outLen | outText _ | reserved => rfl
  | ctrl | status | inten | valLo | valHi | inLen | saltLen | inText _ | salt _ | perm _ => cases h

/-- No register stands at an offset from 0x80 on (R37). -/
theorem regAt_of_ge {off : BitVec 8} (h : 0x80 ≤ off) : regAt off = .reserved := by
  have hbelow : ∀ row ∈ regTable, row.1 < 0x80 := by decide
  have hnone : regTable.lookup off = none := by
    rw [List.lookup_eq_none_iff]
    intro row hrow
    have hlt := hbelow row hrow
    rw [bne_iff_ne]
    rintro rfl
    exact absurd h (BitVec.not_le.mpr hlt)
  rw [regAt, hnone]
  rfl

theorem regAt_readOnly_ignoresWrites :
    ∀ off ∈ ([0x00, 0x10, 0x1C, 0x20, 0x28, 0x40, 0x44, 0x48, 0x4C] : List (BitVec 8)),
      (regAt off).ignoresWrites = true := by decide

/-- An aligned access of 4 bytes is served (R61). -/
theorem busError_of_aligned {off : BitVec 8} (h : off.toNat % 4 = 0) : busError off .four = false :=
  (busError_eq_false_iff off .four).mpr ⟨rfl, (extractLsb'_two_eq_zero_iff off).mpr h⟩

/-- An aligned `WR` is a write to the register at its offset (R101). -/
theorem exec_wr_of_aligned (s : State) {off : BitVec 8} (h : off.toNat % 4 = 0) (data : Word) :
    exec (.wr off data .four) s = .next ((writeReg s (regAt off) data).respond (.write false)) := by
  simp [exec, execWr, busWrite, busError_of_aligned h]

/-- An aligned `RD` answers what the register at its offset reads (R100). -/
theorem exec_rd_of_aligned (s : State) {off : BitVec 8} (h : off.toNat % 4 = 0) :
    exec (.rd off .four) s = .next (s.respond (.read (readReg s (regAt off)) false)) := by
  simp [exec, execRd, busRead, busError_of_aligned h]

/-- Settles O23. -/
theorem readOnlyWritesIgnored : Obligations.ReadOnlyWritesIgnored := by
  unfold Obligations.ReadOnlyWritesIgnored
  intro s d off haligned
  constructor
  · intro hoff
    have hignores : (regAt off).ignoresWrites = true := by
      obtain hreadOnly | hreserved := hoff
      · exact regAt_readOnly_ignoresWrites off hreadOnly
      · rw [regAt_of_ge hreserved]
        rfl
    rw [exec_wr_of_aligned s haligned, writeReg_of_ignoresWrites s hignores]
    rfl
  · intro hreserved
    rw [exec_rd_of_aligned s haligned, regAt_of_ge hreserved]
    rfl

end Sys2Proof.Machine
end

-- ==== Proofs: the window and the host's accesses ====
section
/-! PROOFS. The host's accesses to the window (20_memory.md): which address is which offset, which access is served, what a
read and a write leave alone, and which bytes of the window a write changes. -/

namespace Sys2Proof.Machine

/-! ### The address map -/

/-- Settles O11. -/
theorem windowAddressMap : Obligations.WindowAddressMap := by
  unfold Obligations.WindowAddressMap
  constructor
  · intro p off
    have hlt := off.isLt
    have hoffset : (p.base + off.toNat) % 256 = off.toNat := by
      rw [Params.base]
      omega
    rw [windowOffset, if_pos ⟨by omega, by omega⟩, hoffset, BitVec.ofNat_toNat, BitVec.setWidth_eq]
  · intro p addr hout
    exact if_neg (by omega)

/-! ### The next event -/

theorem step_of_schedule_cons {s : State} {e : Event} {rest : List Event} (h : s.schedule = e :: rest) :
    step s = runEvent e { s with schedule := rest } := by
  rw [step, h]

/-- The engine's turn comes from its event or, with no event left, of itself (R106). -/
theorem step_of_engineIsNext {s : State} (h : engineIsNext s) : step s = engineTurn s.dropEvent := by
  obtain hnil | hhead := h
  · rw [step, hnil, State.dropEvent_of_nil hnil]
  · obtain ⟨rest, hcons⟩ := List.head?_eq_some_iff.mp hhead
    rw [step_of_schedule_cons hcons, State.dropEvent, hcons]
    rfl

theorem runEvent_bus_of_instr {s : State} {t : Transaction} {i : Instr} (h : t.instr s.params = some i) :
    runEvent (.bus t) s = exec i s := by
  rw [runEvent, h]

/-- The engine's turn runs the command that is pending, by its name (R106). -/
theorem engineTurn_of_pend (s : State) :
    (s.pend = some .encode → engineTurn s = exec .encode s) ∧
    (s.pend = some .decode → engineTurn s = exec .decode s) ∧
    (s.pend = some .configure → engineTurn s = exec .configure s) ∧
    (s.pend = some .illegal → engineTurn s = execIllegal s) ∧
    (s.pend = none → engineTurn s = .next s) :=
  ⟨fun hp => by rw [engineTurn, hp], fun hp => by rw [engineTurn, hp], fun hp => by rw [engineTurn, hp],
    fun hp => by rw [engineTurn, hp], fun hp => by rw [engineTurn, hp, exec, execNop]⟩

/-- Settles O6. -/
theorem stepRunsDecodedInstruction : Obligations.StepRunsDecodedInstruction := by
  unfold Obligations.StepRunsDecodedInstruction
  refine ⟨?hop, ?bus, ?engine⟩
  case hop =>
    intro s w rest hs
    rw [step_of_schedule_cons hs, runEvent]
  case bus =>
    intro s t i rest hs hi
    rw [step_of_schedule_cons hs]
    exact runEvent_bus_of_instr hi
  case engine =>
    intro s hnext
    rw [step_of_engineIsNext hnext]
    exact engineTurn_of_pend s.dropEvent

/-! ### Served accesses and bus errors -/

/-- The accesses that get the bus error (R61). -/
theorem busError_eq_true_iff (off : BitVec 8) (size : Size) :
    busError off size = true ↔ size ≠ .four ∨ off.toNat % 4 ≠ 0 := by
  rw [← Bool.not_eq_false, busError_eq_false_iff, extractLsb'_two_eq_zero_iff, not_and_or]

theorem exec_rd_of_busError (s : State) {off : BitVec 8} {size : Size} (h : busError off size = true) :
    exec (.rd off size) s = .next (s.respond (.read 0 true)) := by
  simp [exec, execRd, busRead, h]

theorem exec_wr_of_busError (s : State) {off : BitVec 8} {size : Size} (h : busError off size = true) (data : Word) :
    exec (.wr off data size) s = .next (s.respond (.write true)) := by
  simp [exec, execWr, busWrite, h]

/-- Settles O17. -/
theorem accessWidthAndAlignment : Obligations.AccessWidthAndAlignment := by
  unfold Obligations.AccessWidthAndAlignment
  intro s off data size
  constructor
  · intro hunserved
    have herr := (busError_eq_true_iff off size).mpr hunserved
    exact ⟨exec_rd_of_busError s herr, exec_wr_of_busError s herr data⟩
  · rintro rfl haligned
    exact ⟨⟨_, _, exec_rd_of_aligned s haligned, rfl⟩, ⟨_, exec_wr_of_aligned s haligned data, rfl⟩⟩

/-- Settles O19. -/
theorem readChangesNoState : Obligations.ReadChangesNoState := by
  unfold Obligations.ReadChangesNoState
  intro s off size
  refine ⟨_, rfl, rfl, _, _, rfl, ?_⟩
  rw [← busError_eq_true_iff]
  obtain ⟨herr, hread⟩ | ⟨herr, hread⟩ := busRead_cases s off size <;> simp [herr, hread]

/-! ### The frame of a write -/

/-- The frame of every write, served or not. -/
theorem busWrite_keeps (s : State) (off : BitVec 8) (data : Word) (size : Size) :
    WriteKeeps s (busWrite s off data size).1 := by
  obtain ⟨-, hw⟩ | ⟨-, hw⟩ := busWrite_cases s off data size <;> rw [hw]
  · exact WriteKeeps.refl s
  · exact writeReg_keeps s (regAt off) data

/-- While a command is pending, a served write leaves it pending and the block busy (R103). -/
theorem writeReg_keeps_pending {s : State} (hp : s.pend.isSome = true) (r : Reg) (data : Word) :
    (writeReg s r data).pend = s.pend ∧ (writeReg s r data).status.busy = s.status.busy := by
  have hbusy : s.pend ≠ none := Option.isSome_iff_ne_none.mp hp
  rcases writeReg_cases s r data with ⟨-, h⟩ | ⟨-, h⟩ | ⟨-, -, h⟩ | ⟨hidle, -⟩ | ⟨hidle, -⟩ | ⟨-, -, h⟩
  · simp [h]
  · simp [h]
  · simp [h]
  · exact absurd hidle hbusy
  · exact absurd hidle hbusy
  · simp [h]

theorem busWrite_keeps_pending {s : State} (hp : s.pend.isSome = true) (off : BitVec 8) (data : Word) (size : Size) :
    (busWrite s off data size).1.pend = s.pend ∧ (busWrite s off data size).1.status.busy = s.status.busy := by
  obtain ⟨-, hw⟩ | ⟨-, hw⟩ := busWrite_cases s off data size <;> rw [hw]
  · exact ⟨rfl, rfl⟩
  · exact writeReg_keeps_pending hp (regAt off) data

/-- Settles O26. -/
theorem writeFrame : Obligations.WriteFrame := by
  unfold Obligations.WriteFrame
  intro s off data size
  obtain ⟨⟨hlo, hhi, hlen, htext, hinfo⟩, hactive, hparams, -, hschedule⟩ := busWrite_keeps s off data size
  exact ⟨_, rfl, ⟨hlo, hhi, hlen, htext, hinfo⟩, hactive, hparams, hschedule,
    fun hp => busWrite_keeps_pending hp off data size⟩

/-! ### The register map -/

/-- An offset that is not reserved has a row in the register map (R22). -/
theorem mem_regTable_of_regAt_ne_reserved {off : BitVec 8} (h : regAt off ≠ .reserved) : (off, regAt off) ∈ regTable := by
  rw [regAt] at h ⊢
  cases hrow : regTable.lookup off with
  | none => simp [hrow] at h
  | some r =>
    obtain ⟨l₁, l₂, hsplit, -⟩ := List.lookup_eq_some_iff.mp hrow
    rw [hsplit]
    simp

/-- Registers stand at multiples of 4 (R22). -/
theorem aligned_of_regAt_ne_reserved {off : BitVec 8} (h : regAt off ≠ .reserved) : off.toNat % 4 = 0 := by
  have haligned : ∀ row ∈ regTable, row.1.toNat % 4 = 0 := by decide
  exact haligned _ (mem_regTable_of_regAt_ne_reserved h)

/-- No register stands at two offsets (R22). -/
theorem offset_eq_of_regAt_eq {a b : BitVec 8} (ha : regAt a ≠ .reserved) (h : regAt b = regAt a) : b = a := by
  have hnodup : (regTable.map Prod.snd).Nodup := by decide
  have hb : (b, regAt b) ∈ regTable := mem_regTable_of_regAt_ne_reserved (h ▸ ha)
  exact congrArg Prod.fst (List.inj_on_of_nodup_map hnodup hb (mem_regTable_of_regAt_ne_reserved ha) h)

theorem Reg.ne_reserved_of_isRwData {r : Reg} (h : r.isRwData = true) : r ≠ .reserved := by
  rintro rfl
  cases h

/-- The offsets of the RW data registers (R22, R102). -/
theorem regAt_isRwData_of_mem :
    ∀ off ∈ ([0x14, 0x18, 0x24, 0x2C, 0x30, 0x34, 0x38, 0x3C, 0x50, 0x54, 0x58, 0x5C, 0x60, 0x64, 0x68, 0x6C, 0x70, 0x74,
      0x78, 0x7C] : List (BitVec 8)), (regAt off).isRwData = true := by decide

/-- A data write of an idle block replaces the register (R102). -/
theorem writeReg_of_isRwData {s : State} (hp : s.pend = none) {r : Reg} (hrw : r.isRwData = true) (data : Word) :
    writeReg s r data = setReg s r data := by
  cases r with
  | valLo | valHi | inLen | saltLen | inText k | salt k | perm k => simp [writeReg, Reg.isRwData, hp]
  | id | ctrl | status | inten | errinfo | resLo | resHi | outLen | outText _ | reserved => cases hrw

/-! ### A register read after a register write -/

/-- The port's answer is in no register. -/
@[simp] theorem readReg_respond (s : State) (a : Response) (r : Reg) : readReg (s.respond a) r = readReg s r := by
  cases r <;> rfl

/-- An RW data register reads as what was written to it (R70). -/
theorem readReg_setReg_same (s : State) {r : Reg} (h : r.isRwData = true) (data : Word) :
    readReg (setReg s r data) r = data := by
  cases r with
  | valLo | valHi | inLen | saltLen => rfl
  | inText k | salt k | perm k => simp [readReg, setReg]
  | id | ctrl | status | inten | errinfo | resLo | resHi | outLen | outText _ | reserved => cases h

/-- Writing one register of a group keeps the others. -/
theorem getElem_set_of_ne {n : Nat} (v : Vector Word n) {j k : Fin n} (h : j ≠ k) (data : Word) :
    (v.set k data)[j] = v[j] :=
  Vector.getElem_set_ne k.isLt j.isLt (Fin.val_ne_of_ne h.symm)

/-- A data write changes what no other register reads as. -/
theorem readReg_setReg_of_ne (s : State) {r r' : Reg} (h : r' ≠ r) (data : Word) :
    readReg (setReg s r data) r' = readReg s r' := by
  cases r with
  | id | ctrl | status | inten | errinfo | resLo | resHi | outLen | outText _ | reserved => rfl
  | valLo =>
    cases r' with
    | valLo => exact absurd rfl h
    | _ => rfl
  | valHi =>
    cases r' with
    | valHi => exact absurd rfl h
    | _ => rfl
  | inLen =>
    cases r' with
    | inLen => exact absurd rfl h
    | _ => rfl
  | saltLen =>
    cases r' with
    | saltLen => exact absurd rfl h
    | _ => rfl
  | inText k =>
    cases r' with
    | inText j => exact getElem_set_of_ne s.inText (fun hjk => h (congrArg Reg.inText hjk)) data
    | _ => rfl
  | salt k =>
    cases r' with
    | salt j => exact getElem_set_of_ne s.salt (fun hjk => h (congrArg Reg.salt hjk)) data
    | _ => rfl
  | perm k =>
    cases r' with
    | perm j => exact getElem_set_of_ne s.perm (fun hjk => h (congrArg Reg.perm hjk)) data
    | _ => rfl

/-- A data write to an idle block puts the word in the register at the offset (R102). -/
theorem exec_wr_of_isRwData {s : State} {off : BitVec 8} (hp : s.pend = none) (hrw : (regAt off).isRwData = true)
    (data : Word) :
    exec (.wr off data .four) s = .next ((setReg s (regAt off) data).respond (.write false)) := by
  have haligned := aligned_of_regAt_ne_reserved (Reg.ne_reserved_of_isRwData hrw)
  rw [exec_wr_of_aligned s haligned, writeReg_of_isRwData hp hrw]

/-- Settles O28. -/
theorem writeThenReadReturnsData : Obligations.WriteThenReadReturnsData := by
  unfold Obligations.WriteThenReadReturnsData
  intro s off d hp hoff
  have hrw := regAt_isRwData_of_mem off hoff
  have haligned := aligned_of_regAt_ne_reserved (Reg.ne_reserved_of_isRwData hrw)
  refine ⟨_, _, exec_wr_of_isRwData hp hrw d, exec_rd_of_aligned _ haligned, ?_⟩
  rw [State.respond_response, readReg_respond, readReg_setReg_same s hrw]

/-! ### The bytes of the window -/

/-- The register offset of a byte of the window (R62). -/
theorem toNat_and_0xFC : ∀ a : BitVec 8, (a &&& 0xFC#8).toNat = 4 * (a.toNat / 4) := by decide +kernel

/-- The port's answer is in no byte of the window. -/
@[simp] theorem windowByte_respond (s : State) (a : Response) (off : BitVec 8) :
    windowByte (s.respond a) off = windowByte s off := by
  rw [windowByte, readReg_respond, windowByte]

/-- Byte `k` from an aligned offset on is lane `k` of the register there (R62). -/
theorem windowByte_add (s : State) {off : BitVec 8} (haligned : off.toNat % 4 = 0) {k : Nat} (hk : k < 4) :
    windowByte s (off + BitVec.ofNat 8 k) = (readReg s (regAt off)).extractLsb' (8 * k) 8 := by
  have hsum : (off + BitVec.ofNat 8 k).toNat = off.toNat + k := by
    rw [BitVec.toNat_add, BitVec.toNat_ofNat]
    omega
  have hreg : (off + BitVec.ofNat 8 k) &&& 0xFC#8 = off := by
    apply BitVec.eq_of_toNat_eq
    rw [toNat_and_0xFC, hsum]
    omega
  have hlane : ((off + BitVec.ofNat 8 k).extractLsb' 0 2).toNat = k := by
    rw [BitVec.extractLsb'_toNat, hsum, Nat.shiftRight_zero]
    omega
  rw [windowByte, hreg, hlane]

/-- A byte outside the four from an offset on is in another register than the one there (R62). -/
theorem and_0xFC_ne_of_outside {a off : BitVec 8} (h : a < off ∨ off + 3 < a) :
    a &&& 0xFC#8 ≠ off := by
  rintro rfl
  have hreg := toNat_and_0xFC a
  rw [BitVec.lt_def, BitVec.lt_def, BitVec.toNat_add, hreg, show (3 : BitVec 8).toNat = 3 from rfl] at h
  omega

/-- A data write leaves the bytes of every other register as they were. -/
theorem windowByte_setReg_of_ne (s : State) {off a : BitVec 8} (hrw : (regAt off).isRwData = true)
    (h : a &&& 0xFC#8 ≠ off) (data : Word) :
    windowByte (setReg s (regAt off) data) a = windowByte s a := by
  have hother : regAt (a &&& 0xFC#8) ≠ regAt off :=
    fun heq => h (offset_eq_of_regAt_eq (Reg.ne_reserved_of_isRwData hrw) heq)
  rw [windowByte, readReg_setReg_of_ne s hother, windowByte]

/-- Settles O27. -/
theorem writeChangesOwnBytes : Obligations.WriteChangesOwnBytes := by
  unfold Obligations.WriteChangesOwnBytes
  intro s off d hp hoff
  have hrw := regAt_isRwData_of_mem off hoff
  have haligned := aligned_of_regAt_ne_reserved (Reg.ne_reserved_of_isRwData hrw)
  refine ⟨_, exec_wr_of_isRwData hp hrw d, ?own, ?others⟩
  case own =>
    intro k hk
    rw [windowByte_respond, windowByte_add _ haligned hk, readReg_setReg_same s hrw]
  case others =>
    intro a ha
    rw [windowByte_respond, windowByte_setReg_of_ne s hrw (and_0xFC_ne_of_outside ha)]

end Sys2Proof.Machine
end

-- ==== Proofs: the decoder and the encoder ====
section
/-! PROOFS. The encodings (30_encoding.md): the command word by its two fields (R82), the host-operation word by its three
(R91), the bytes of both, the words of the opcode table, and the step that runs a placed word. -/

namespace Sys2Proof.Machine

/-! ### The command word -/

/-- The words whose reserved bits are 0 are told apart by bits [3:0] (R82). -/
theorem eq_append_iff_fields (w : BitVec 32) (c : BitVec 4) :
    w = 0#28 ++ c ↔ w.extractLsb' 4 28 = 0#28 ∧ w.extractLsb' 0 4 = c := by
  have happend : w = w.extractLsb' 4 28 ++ w.extractLsb' 0 4 := by
    rw [BitVec.extractLsb'_append_extractLsb'_eq_extractLsb' (by rfl), BitVec.extractLsb'_eq_self]
  constructor
  · rintro rfl
    exact ⟨BitVec.extractLsb'_append_eq_left, BitVec.extractLsb'_append_eq_right⟩
  · rintro ⟨hhigh, hlow⟩
    rw [happend, hhigh, hlow]

/-- Settles O4, by the two fields of the word. -/
theorem commandWordDecoding : Obligations.CommandWordDecoding := by
  unfold Obligations.CommandWordDecoding
  intro w
  have h0 : w = 0x00000000 ↔ _ := eq_append_iff_fields w 0x0#4
  have h1 : w = 0x00000001 ↔ _ := eq_append_iff_fields w 0x1#4
  have h2 : w = 0x00000002 ↔ _ := eq_append_iff_fields w 0x2#4
  have h3 : w = 0x00000003 ↔ _ := eq_append_iff_fields w 0x3#4
  rw [decodeCmd]
  by_cases hhigh : w.extractLsb' 4 28 = 0#28
  · simp only [h0, h1, h2, h3, hhigh, ne_eq, not_true_eq_false, if_false, true_and]
  · simp only [h0, h1, h2, h3, hhigh, ne_eq, not_false_eq_true, if_true, false_and, if_false]

/-! ### The host-operation word -/

@[simp] theorem hopD_mkHop (d : BitVec 1) (off : BitVec 8) (data : BitVec 32) : hopD (mkHop d off data) = d := by
  rw [hopD, mkHop, BitVec.extractLsb'_append_eq_of_le (by decide), BitVec.extractLsb'_append_eq_left]

@[simp] theorem hopOff_mkHop (d : BitVec 1) (off : BitVec 8) (data : BitVec 32) : hopOff (mkHop d off data) = off := by
  rw [hopOff, mkHop, BitVec.extractLsb'_append_eq_of_le (by decide), BitVec.extractLsb'_append_eq_right]

@[simp] theorem hopData_mkHop (d : BitVec 1) (off : BitVec 8) (data : BitVec 32) : hopData (mkHop d off data) = data := by
  rw [hopData, mkHop, BitVec.extractLsb'_append_eq_right]

/-- A host-operation word is its three fields (R91). -/
@[simp] theorem mkHop_fields (w : Hop) : mkHop (hopD w) (hopOff w) (hopData w) = w := by
  rw [mkHop, hopD, hopOff, hopData, BitVec.extractLsb'_append_extractLsb'_eq_extractLsb' (by rfl),
    BitVec.extractLsb'_append_extractLsb'_eq_extractLsb' (by rfl), BitVec.extractLsb'_eq_self]

/-- Bit 40 alone selects the operation of a word written by its fields (R91, R93). -/
theorem decodeHop_mkHop (d : BitVec 1) (off : BitVec 8) (data : BitVec 32) :
    decodeHop (mkHop d off data) = if d = 1#1 then .wr off data .four else .rd off .four := by
  rw [decodeHop, hopD_mkHop, hopOff_mkHop, hopData_mkHop]

/-- Settles O3. -/
theorem hopFieldsSelectOperation : Obligations.HopFieldsSelectOperation := by
  unfold Obligations.HopFieldsSelectOperation
  intro off data
  exact ⟨decodeHop_mkHop 1#1 off data, decodeHop_mkHop 0#1 off data⟩

/-- Settles O2. -/
theorem encodeOfDecodedHop : Obligations.EncodeOfDecodedHop := by
  unfold Obligations.EncodeOfDecodedHop
  intro w
  simp only [decodeHop, BitVec.ofNat_eq_ofNat]
  by_cases hd : hopD w = 1#1
  · have hfields := mkHop_fields w
    rw [hd] at hfields
    rw [if_pos hd, if_pos hd, encodeBytes, hfields]
  · rw [if_neg hd, if_neg hd, encodeBytes]

/-! ### The bytes of a word -/

/-- The four bytes of a word put together again (R62). -/
theorem wordOfBytes_bytes (w : BitVec 32) :
    wordOfBytes (w.extractLsb' 0 8) (w.extractLsb' 8 8) (w.extractLsb' 16 8) (w.extractLsb' 24 8) = w := by
  rw [wordOfBytes, BitVec.extractLsb'_append_extractLsb'_eq_extractLsb' (by rfl),
    BitVec.extractLsb'_append_extractLsb'_eq_extractLsb' (by rfl),
    BitVec.extractLsb'_append_extractLsb'_eq_extractLsb' (by rfl), BitVec.extractLsb'_eq_self]

/-- Four bytes are decoded as the command word they hold (R80, R82). -/
theorem decodeBytes_bytesOfWord (w : BitVec 32) :
    decodeBytes (bytesOfWord w) = (decodeCmd w).instr.elim (.error (.illegalCommand w)) .ok := by
  rw [bytesOfWord, decodeBytes, wordOfBytes_bytes]
  cases (decodeCmd w).instr <;> rfl

/-- Six bytes are decoded by the fields of the host-operation word they hold, if the bits above it are 0 (R91). -/
theorem decodeBytes_bytesOfWord_append (data : BitVec 32) (off top : Byte) :
    decodeBytes (bytesOfWord data ++ [off, top]) =
      if top.extractLsb' 1 7 = 0#7 then .ok (decodeHop (mkHop (top.extractLsb' 0 1) off data))
      else .error .bitsAboveHop := by
  rw [bytesOfWord, List.cons_append, List.cons_append, List.cons_append, List.cons_append, List.nil_append, decodeBytes,
    wordOfBytes_bytes, mkHop, ite_not]

/-- The bytes of a host-operation word, by its fields. -/
theorem bytesOfHop_eq (w : Hop) : bytesOfHop w = bytesOfWord (hopData w) ++ [hopOff w, (hopD w).setWidth 8] := rfl

/-- A host-operation word is decoded from its own six bytes (R91). -/
theorem decodeBytes_bytesOfHop (w : Hop) : decodeBytes (bytesOfHop w) = .ok (decodeHop w) := by
  have habove : ∀ d : BitVec 1, (d.setWidth 8).extractLsb' 1 7 = 0#7 := by decide
  have hbit : ∀ d : BitVec 1, (d.setWidth 8).extractLsb' 0 1 = d := by decide
  rw [bytesOfHop_eq, decodeBytes_bytesOfWord_append, if_pos (habove _), hbit, mkHop_fields]

/-- The sizes a host-operation word can express (R91). -/
theorem hopSize_eq_true_iff (size : Size) : size.hopSize = true ↔ size = .four := by
  cases size <;> decide

/-- Settles O1, by the constructors: a command word is one of four, a host operation is its three fields. -/
theorem decodeOfEncode : Obligations.DecodeOfEncode := by
  unfold Obligations.DecodeOfEncode
  intro i hwf
  cases i with
  | nop | encode | decode | configure =>
    rw [encodeBytes, decodeBytes_bytesOfWord, commandWordDecoding]
    rfl
  | rd off size =>
    obtain rfl := (hopSize_eq_true_iff size).mp hwf
    rw [encodeBytes, decodeBytes_bytesOfHop, decodeHop_mkHop]
    rfl
  | wr off data size =>
    obtain rfl := (hopSize_eq_true_iff size).mp hwf
    rw [encodeBytes, decodeBytes_bytesOfHop, decodeHop_mkHop]
    rfl

/-! ### The words of the opcode table -/

/-- A field of a number's low bits is cut out by a division. -/
theorem ofNat_div_two_pow {n k len : Nat} (h : k + len ≤ n) (w : Nat) :
    BitVec.ofNat len (w / 2 ^ k) = (BitVec.ofNat n w).extractLsb' k len := by
  apply BitVec.eq_of_getLsbD_eq
  intro i hi
  rw [BitVec.getLsbD_ofNat, Nat.testBit_div_two_pow, BitVec.getLsbD_extractLsb', BitVec.getLsbD_ofNat, Nat.add_comm i k,
    decide_eq_true (show k + i < n by omega), Bool.true_and]

theorem bytesOfNat_four (w : Nat) : bytesOfNat 4 w = bytesOfWord (BitVec.ofNat 32 w) := by
  rw [bytesOfWord, ← ofNat_div_two_pow (by decide), ← ofNat_div_two_pow (by decide), ← ofNat_div_two_pow (by decide),
    ← ofNat_div_two_pow (by decide)]
  simp only [bytesOfNat, Nat.div_div_eq_div_mul, Nat.reduceMul, Nat.reducePow, Nat.div_one]

theorem bytesOfNat_six (w : Nat) :
    bytesOfNat 6 w = bytesOfWord (BitVec.ofNat 32 w) ++ [BitVec.ofNat 8 (w / 2 ^ 32), BitVec.ofNat 8 (w / 2 ^ 40)] := by
  rw [← bytesOfNat_four]
  simp only [bytesOfNat, Nat.div_div_eq_div_mul, Nat.reduceMul, Nat.reducePow, List.cons_append, List.nil_append]

/-- The two bytes above a host-operation word's `DATA`, taken by division, are its fields `D` and `OFF` (R91). -/
theorem mkHop_ofNat (w : Nat) :
    mkHop ((BitVec.ofNat 8 (w / 2 ^ 40)).extractLsb' 0 1) (BitVec.ofNat 8 (w / 2 ^ 32)) (BitVec.ofNat 32 w) =
      BitVec.ofNat 41 w := by
  have hD : (BitVec.ofNat 8 (w / 2 ^ 40)).extractLsb' 0 1 = hopD (BitVec.ofNat 41 w) := by
    rw [hopD, ← ofNat_div_two_pow (by decide), ← ofNat_div_two_pow (by decide), pow_zero, Nat.div_one]
  have hOff : BitVec.ofNat 8 (w / 2 ^ 32) = hopOff (BitVec.ofNat 41 w) := ofNat_div_two_pow (by decide) w
  have hData : BitVec.ofNat 32 w = hopData (BitVec.ofNat 41 w) := by
    rw [hopData, ← ofNat_div_two_pow (by decide), pow_zero, Nat.div_one]
  rw [hD, hOff, hData, mkHop_fields]

/-- The bits above a host-operation word are 0 exactly when the number has at most 41 bits (R91). -/
theorem bitsAboveHop_eq_zero_iff {w : Nat} (h : w < 2 ^ 48) :
    (BitVec.ofNat 8 (w / 2 ^ 40)).extractLsb' 1 7 = 0#7 ↔ w < 2 ^ 41 := by
  rw [← ofNat_div_two_pow (by decide), ← BitVec.toNat_inj, BitVec.toNat_ofNat, BitVec.toNat_ofNat]
  omega

/-- The opcode table's words of at most 32 bits are the command words (R80, R82). -/
theorem decodeTableWord_command {nbits : Nat} (hn : nbits ≤ 32) (w : Nat) :
    decodeTableWord nbits w = if w < 2 ^ 32 then (decodeCmd (BitVec.ofNat 32 w)).instr else none := by
  rw [decodeTableWord, tableBytes, if_pos hn, bytesOfNat_four, decodeBytes_bytesOfWord]
  cases (decodeCmd (BitVec.ofNat 32 w)).instr <;> rfl

/-- The opcode table's longer words are the host-operation words of 41 bits (R91). -/
theorem decodeTableWord_hop {nbits : Nat} (hn : 32 < nbits) (w : Nat) :
    decodeTableWord nbits w = if w < 2 ^ 41 then some (decodeHop (BitVec.ofNat 41 w)) else none := by
  rw [decodeTableWord, tableBytes, if_neg (Nat.not_le.mpr hn), bytesOfNat_six, decodeBytes_bytesOfWord_append, mkHop_ofNat]
  by_cases hbytes : w < 256 ^ 6
  · rw [if_pos hbytes]
    by_cases hbits : w < 2 ^ 41
    · rw [if_pos ((bitsAboveHop_eq_zero_iff (by omega)).mpr hbits), if_pos hbits]
    · rw [if_neg (mt (bitsAboveHop_eq_zero_iff (by omega)).mp hbits), if_neg hbits]
  · rw [if_neg hbytes, if_neg (by omega)]

/-- Settles O5. -/
theorem sampleWordsDecode : Obligations.SampleWordsDecode := by
  unfold Obligations.SampleWordsDecode
  simp only [decodeTableWord_command (Nat.le_refl 32), decodeTableWord_hop (show 32 < 48 by decide)]
  decide

/-! ### A placed word -/

/-- The command an idle block has accepted is the one its engine runs (R105, R106). -/
theorem engineTurn_of_accepted {s t : State} {w : Word} {i : Instr} (hidle : s.pend = none)
    (hi : (decodeCmd w).instr = some i) (ht : t.pend = (accept s w).pend) : engineTurn t = exec i t := by
  obtain ⟨hencode, hdecode, hconfigure, -, -⟩ := engineTurn_of_pend t
  rw [accept] at ht
  cases hcode : decodeCmd w <;> rw [hcode] at hi ht <;> cases hi
  case nop => rw [engineTurn, ht, hidle]
  case encode => exact hencode ht
  case decode => exact hdecode ht
  case configure => exact hconfigure ht

/-- Settles O7, by the two formats of the opcode table. -/
theorem fetchedWordRunsNext : Obligations.FetchedWordRunsNext := by
  unfold Obligations.FetchedWordRunsNext
  intro s nbits w i hdecode
  rw [State.withFetchWord, placeWord]
  by_cases hn : nbits ≤ 32
  · rw [decodeTableWord_command hn, Option.ite_none_right_eq_some] at hdecode
    rw [if_pos hn, step_of_schedule_cons rfl]
    exact engineTurn_of_accepted rfl hdecode.2 rfl
  · rw [decodeTableWord_hop (by omega), Option.ite_none_right_eq_some] at hdecode
    obtain ⟨-, hi⟩ := hdecode
    rw [if_neg hn, step_of_schedule_cons rfl, runEvent, Option.some.inj hi]

/-! ### A text in its registers -/

/-- Settles O41. -/
theorem packedTextReadsBack : Obligations.PackedTextReadsBack := by
  unfold Obligations.PackedTextReadsBack
  exact textByte_packText

end Sys2Proof.Machine
end

-- ==== Proofs: the registers the host reads and writes ====
section
/-! PROOFS. What a read or a write of each register does (40_command_interface.md R100 to R105): the row of the register map
an access meets, the drop of a write while a command is pending, and the acceptance of a command word. -/

namespace Sys2Proof.Machine

/-! ### The rows of the register map -/

/-- No offset has two rows in the register map, so its row is the one found (R22). -/
theorem regAt_of_mem_regTable : ∀ row ∈ regTable, regAt row.1 = row.2 := by decide

theorem aligned_of_mem_regTable : ∀ row ∈ regTable, row.1.toNat % 4 = 0 := by decide

theorem exec_rd_of_row (s : State) {off : BitVec 8} {r : Reg} (hrow : (off, r) ∈ regTable) :
    exec (.rd off .four) s = .next (s.respond (.read (readReg s r) false)) := by
  rw [exec_rd_of_aligned s (aligned_of_mem_regTable _ hrow), regAt_of_mem_regTable _ hrow]

theorem exec_wr_of_row (s : State) {off : BitVec 8} {r : Reg} (hrow : (off, r) ∈ regTable) (data : Word) :
    exec (.wr off data .four) s = .next ((writeReg s r data).respond (.write false)) := by
  rw [exec_wr_of_aligned s (aligned_of_mem_regTable _ hrow), regAt_of_mem_regTable _ hrow]

theorem ctrl_mem_regTable : (0x04, .ctrl) ∈ regTable := by decide
theorem status_mem_regTable : (0x08, .status) ∈ regTable := by decide
theorem inten_mem_regTable : (0x0C, .inten) ∈ regTable := by decide

theorem inText_mem_regTable : ∀ k : Fin 4, (0x30 + 4 * BitVec.ofNat 8 k.val, .inText k) ∈ regTable := by decide
theorem salt_mem_regTable : ∀ k : Fin 4, (0x50 + 4 * BitVec.ofNat 8 k.val, .salt k) ∈ regTable := by decide
theorem perm_mem_regTable : ∀ k : Fin 8, (0x60 + 4 * BitVec.ofNat 8 k.val, .perm k) ∈ regTable := by decide

/-! ### Reads -/

/-- What a read of each row of the register map returns. -/
def registerReads (s : State) : List (BitVec 8 × Word) := regTable.map fun row => (row.1, readReg s row.2)

theorem exec_rd_of_mem_registerReads (s : State) {row : BitVec 8 × Word} (h : row ∈ registerReads s) :
    exec (.rd row.1 .four) s = .next (s.respond (.read row.2 false)) := by
  obtain ⟨⟨off, r⟩, hrow, rfl⟩ := List.mem_map.mp h
  exact exec_rd_of_row s hrow

/-- Settles O18: the values of the statement are `registerReads`, row for row. -/
theorem readReturnsRegister : Obligations.ReadReturnsRegister := by
  unfold Obligations.ReadReturnsRegister
  intro s
  refine ⟨?registers, ?reserved, ?unserved⟩
  case registers =>
    intro row hrow
    exact exec_rd_of_mem_registerReads s hrow
  case reserved =>
    intro off hoff haligned
    rw [exec_rd_of_aligned s haligned, regAt_of_ge hoff]
    rfl
  case unserved =>
    intro off size hunserved
    exact exec_rd_of_busError s ((busError_eq_true_iff off size).mpr hunserved)

/-! ### Data writes and dropped writes -/

theorem exec_wr_of_rwRow {s : State} (hp : s.pend = none) {off : BitVec 8} {r : Reg} (hrow : (off, r) ∈ regTable)
    (hrw : r.isRwData = true) (data : Word) :
    exec (.wr off data .four) s = .next ((setReg s r data).respond (.write false)) := by
  rw [exec_wr_of_row s hrow, writeReg_of_isRwData hp hrw]

/-- Settles O20, by the row of each RW data register. -/
theorem idleWriteReplacesRegister : Obligations.IdleWriteReplacesRegister := by
  unfold Obligations.IdleWriteReplacesRegister
  intro s d hp
  exact ⟨exec_wr_of_rwRow (r := .valLo) hp (by decide) rfl d, exec_wr_of_rwRow (r := .valHi) hp (by decide) rfl d,
    exec_wr_of_rwRow (r := .inLen) hp (by decide) rfl d, exec_wr_of_rwRow (r := .saltLen) hp (by decide) rfl d,
    fun k => exec_wr_of_rwRow hp (inText_mem_regTable k) rfl d,
    fun k => exec_wr_of_rwRow hp (salt_mem_regTable k) rfl d,
    fun k => exec_wr_of_rwRow hp (perm_mem_regTable k) rfl d⟩

/-- The registers whose writes a pending command makes dropped (R103). -/
def Reg.droppedWhenBusy (r : Reg) : Prop := r = .ctrl ∨ r.isRwData = true

theorem writeReg_of_pending {s : State} (hp : s.pend.isSome = true) {r : Reg} (hr : r.droppedWhenBusy) (data : Word) :
    writeReg s r data = s.markDropped := by
  obtain rfl | hrw := hr
  · simp [writeReg, hp]
  · cases r with
    | valLo | valHi | inLen | saltLen | inText k | salt k | perm k => simp [writeReg, Reg.isRwData, hp]
    | id | ctrl | status | inten | errinfo | resLo | resHi | outLen | outText _ | reserved => cases hrw

/-- The offsets of `CTRL` and of the RW data registers (R22, R103). -/
theorem droppedWhenBusy_of_mem {off : BitVec 8}
    (h : off ∈ ([0x04, 0x14, 0x18, 0x24, 0x2C, 0x30, 0x34, 0x38, 0x3C, 0x50, 0x54, 0x58, 0x5C, 0x60, 0x64, 0x68, 0x6C,
      0x70, 0x74, 0x78, 0x7C] : List (BitVec 8))) : (regAt off).droppedWhenBusy := by
  obtain rfl | hrw := List.mem_cons.mp h
  · exact .inl rfl
  · exact .inr (regAt_isRwData_of_mem off hrw)

theorem Reg.droppedWhenBusy.ne_reserved {r : Reg} (h : r.droppedWhenBusy) : r ≠ .reserved := by
  rintro rfl
  simp [Reg.droppedWhenBusy, Reg.isRwData] at h

theorem exec_wr_of_droppedWhenBusy {s : State} (hp : s.pend.isSome = true) {off : BitVec 8}
    (hr : (regAt off).droppedWhenBusy) (data : Word) :
    exec (.wr off data .four) s = .next (s.markDropped.respond (.write false)) := by
  rw [exec_wr_of_aligned s (aligned_of_regAt_ne_reserved hr.ne_reserved), writeReg_of_pending hp hr]

/-- Settles O21. -/
theorem busyWriteIsDropped : Obligations.BusyWriteIsDropped := by
  unfold Obligations.BusyWriteIsDropped
  intro s d hp off hoff
  exact exec_wr_of_droppedWhenBusy hp (droppedWhenBusy_of_mem hoff) d

/-! ### Flag writes -/

/-- A flag survives a write that clears it on a 1 exactly when that bit is 0 (R104). -/
theorem and_not_eq_ite (flag clear : Bool) : (flag && !clear) = if clear then false else flag := by
  cases clear <;> simp

/-- Settles O22. -/
theorem statusAndIntenWrites : Obligations.StatusAndIntenWrites := by
  unfold Obligations.StatusAndIntenWrites
  intro s d
  refine ⟨?status, exec_wr_of_row s inten_mem_regTable d, ?irq⟩
  case status =>
    rw [exec_wr_of_row s status_mem_regTable, ← and_not_eq_ite, ← and_not_eq_ite]
    rfl
  case irq =>
    intro hclear
    exact ⟨_, exec_wr_of_row s status_mem_regTable d, by simp [State.irq, writeReg, hclear]⟩

/-! ### Command words -/

/-- The command that a word other than `NOP`'s starts (R82, R105). -/
def startedCommand (w : Word) : Command :=
  if w = 1 then .encode else if w = 2 then .decode else if w = 3 then .configure else .illegal

theorem accept_zero (s : State) : accept s 0 = s := rfl

theorem accept_of_ne_zero (s : State) {w : Word} (h : w ≠ 0) : accept s w = s.start (startedCommand w) := by
  rw [accept, commandWordDecoding w, if_neg h, startedCommand]
  split_ifs <;> rfl

/-- An idle block accepts the word written to `CTRL` (R105). -/
theorem exec_wr_ctrl_of_idle {s : State} (hp : s.pend = none) (w : Word) :
    exec (.wr 0x04 w .four) s = .next ((accept s w).respond (.write false)) := by
  rw [exec_wr_of_row s ctrl_mem_regTable]
  simp [writeReg, hp]

/-- Settles O24. -/
theorem commandAcceptance : Obligations.CommandAcceptance := by
  unfold Obligations.CommandAcceptance
  intro s w hp
  rw [exec_wr_ctrl_of_idle hp]
  by_cases hw : w = 0
  · subst hw
    rw [accept_zero, if_pos rfl, if_pos rfl, ← hp]
    rfl
  · rw [accept_of_ne_zero s hw, if_neg hw, if_neg hw, ← apply_ite some, ← apply_ite some, ← apply_ite some]
    rfl

/-- Settles O25. -/
theorem nopHasNoEffect : Obligations.NopHasNoEffect := by
  unfold Obligations.NopHasNoEffect
  intro s
  refine ⟨rfl, ?idle, ?busy, ?others⟩
  case idle =>
    intro hp
    rw [exec_wr_ctrl_of_idle hp, accept_zero]
    rfl
  case busy =>
    intro hp
    exact exec_wr_of_droppedWhenBusy hp (.inl rfl) 0
  case others =>
    intro w hp hw
    exact ⟨_, exec_wr_ctrl_of_idle hp w, by simp [accept_of_ne_zero s hw]⟩

/-- Settles O29. -/
theorem illegalWordCompletes : Obligations.IllegalWordCompletes := by
  unfold Obligations.IllegalWordCompletes
  intro s w hp h0 h1 h2 h3
  have haccept : accept s w = s.start .illegal := by
    rw [accept_of_ne_zero s h0, startedCommand, if_neg h1, if_neg h2, if_neg h3]
  refine ⟨_, exec_wr_ctrl_of_idle hp w, ?_, ?_, ?_⟩ <;> rw [haccept]
  · rfl
  · rfl
  · rw [hp]
    rfl

end Sys2Proof.Machine
end

-- ==== Proofs: a pending command until its completion ====
section
/-! PROOFS. A pending command between its acceptance and its completion (40_command_interface.md R103, R106, R110): no host
transaction changes its operands or a result register, every step uses up one event, and the engine's turn ends it. -/

namespace Sys2Proof.Machine

/-! ### The host's turn -/

theorem hostIsNext.not_engineIsNext {s : State} (h : hostIsNext s) : ¬ engineIsNext s := by
  rintro (hnil | hengine)
  · simp [hostIsNext, hnil] at h
  · simp [hostIsNext, hengine] at h

theorem hostIsNext.not_resetIsNext {s : State} (h : hostIsNext s) : ¬ resetIsNext s := by
  intro hreset
  rw [resetIsNext] at hreset
  simp [hostIsNext, hreset] at h

/-- A step at which the host is next is a transaction of the host. -/
theorem step_hostEffect {s t : State} (hn : hostIsNext s) (hstep : step s = .next t) : HostEffect s.dropEvent t := by
  cases step_stepEffect hstep with
  | host _ h => exact h
  | engine hengine _ => exact absurd hengine hn.not_engineIsNext
  | reset hreset => exact absurd hreset hn.not_resetIsNext

/-- Settles O31. -/
theorem hostEventsKeepResults : Obligations.HostEventsKeepResults := by
  unfold Obligations.HostEventsKeepResults
  intro s t hn hstep
  obtain ⟨hlo, hhi, hlen, htext, hinfo⟩ := (step_hostEffect hn hstep).keeps.results
  exact ⟨hlo, hhi, hlen, htext, hinfo⟩

/-- The pending command and what its completion may read (R103): the RW data registers and the active configuration. -/
structure SameOperands (s t : State) : Prop where
  pend : t.pend = s.pend
  active : t.active = s.active
  valLo : t.valLo = s.valLo
  valHi : t.valHi = s.valHi
  inLen : t.inLen = s.inLen
  saltLen : t.saltLen = s.saltLen
  inText : t.inText = s.inText
  salt : t.salt = s.salt
  perm : t.perm = s.perm

/-- Flags and the port's answer are no operands. -/
theorem SameOperands.of_flags (s : State) (st : Status) (ie : Bool) (r : Response) :
    SameOperands s { s with status := st, doneIe := ie, response := r } :=
  ⟨rfl, rfl, rfl, rfl, rfl, rfl, rfl, rfl, rfl⟩

/-- A host transaction keeps the operands of a pending command (R103). -/
theorem HostEffect.sameOperands {s t : State} (h : HostEffect s t) (hp : s.pend.isSome = true) : SameOperands s t := by
  have hbusy : s.pend ≠ none := Option.isSome_iff_ne_none.mp hp
  cases h with
  | outside => exact .of_flags s s.status s.doneIe s.response
  | answered r => exact .of_flags s s.status s.doneIe r
  | written reg data =>
    rcases writeReg_cases s reg data with ⟨-, h⟩ | ⟨-, h⟩ | ⟨-, -, h⟩ | ⟨hidle, -⟩ | ⟨hidle, -⟩ | ⟨-, -, h⟩
    · rw [h]; exact .of_flags s _ s.doneIe _
    · rw [h]; exact .of_flags s s.status _ _
    · rw [h]; exact .of_flags s _ s.doneIe _
    · exact absurd hidle hbusy
    · exact absurd hidle hbusy
    · rw [h]; exact .of_flags s s.status s.doneIe _

/-- Settles O34. -/
theorem pendingOperandsStable : Obligations.PendingOperandsStable := by
  unfold Obligations.PendingOperandsStable
  intro s t hp hn hstep
  obtain ⟨hpend, hactive, hvalLo, hvalHi, hinLen, hsaltLen, hinText, hsalt, hperm⟩ :=
    (step_hostEffect hn hstep).sameOperands hp
  exact ⟨hpend, hactive, hvalLo, hvalHi, hinLen, hsaltLen, hinText, hsalt, hperm⟩

/-! ### Every event has an effect -/

theorem exec_answers (i : Instr) (s : State) : ∃ t, exec i s = .next t := by
  cases i with
  | nop | encode | rd | wr => exact ⟨_, rfl⟩
  | decode =>
    obtain ⟨f, -, h⟩ | ⟨v, -, h⟩ := execDecode_cases s
    · exact ⟨_, h⟩
    · exact ⟨_, h⟩
  | configure =>
    obtain ⟨f, -, h⟩ | ⟨-, h⟩ := execConfigure_cases s
    · exact ⟨_, h⟩
    · exact ⟨_, h⟩

theorem engineTurn_answers (s : State) : ∃ t, engineTurn s = .next t := by
  obtain ⟨-, h⟩ | ⟨-, h⟩ | ⟨-, h⟩ | ⟨-, h⟩ | ⟨-, h⟩ := engineTurn_cases s <;> rw [h]
  · exact ⟨_, rfl⟩
  · exact exec_answers .encode s
  · exact exec_answers .decode s
  · exact exec_answers .configure s
  · exact ⟨_, rfl⟩

theorem runEvent_answers (e : Event) (s : State) : ∃ t, runEvent e s = .next t := by
  cases e with
  | hop w => exact exec_answers (decodeHop w) s
  | bus tr =>
    rw [runEvent]
    split
    · exact exec_answers _ s
    · exact ⟨s, rfl⟩
  | engine => exact engineTurn_answers s
  | reset => exact ⟨_, rfl⟩

/-- Every step has a next state (R206, R209). -/
theorem step_answers (s : State) : ∃ t, step s = .next t := by
  obtain ⟨-, h⟩ | ⟨e, rest, -, h⟩ := step_cases s <;> rw [h]
  · exact engineTurn_answers s
  · exact runEvent_answers e _

/-! ### Every step uses up one event -/

theorem HostEffect.schedule_eq {s t : State} (h : HostEffect s t) : t.schedule = s.schedule := by
  cases h with
  | outside | answered => rfl
  | written reg data => exact (writeReg_keeps s reg data).schedule

theorem EngineEffect.schedule_eq {s t : State} (h : EngineEffect s t) : t.schedule = s.schedule := by
  cases h <;> rfl

theorem step_schedule {s t : State} (h : step s = .next t) : t.schedule = s.schedule.tail := by
  cases step_stepEffect h with
  | engine _ he => exact he.schedule_eq
  | host _ hh => exact hh.schedule_eq
  | reset _ => rfl

theorem run_succ_of_step_eq_next (M : Host.Core) {s t : M.State} (h : M.step s = .next t) (k : Nat) :
    M.run (k + 1) s = M.run k t := by
  rw [Host.Core.run, h]

theorem run_succ_of_step {s t : State} (h : step s = .next t) (k : Nat) :
    Sys2Proof.core.run (k + 1) s = Sys2Proof.core.run k t :=
  run_succ_of_step_eq_next Sys2Proof.core h k

/-! ### The engine's turn ends a pending command -/

theorem EngineEffect.pend_eq_none {s t : State} (h : EngineEffect s t) : t.pend = none := by
  cases h with
  | idle hp => exact hp
  | encoded | decoded | decodeFailed | configured | configureFailed | illegalFailed => rfl

/-- The completion of a pending command clears `BUSY` and sets `DONE` (R204, R205). -/
theorem EngineEffect.status_of_pending {s t : State} (h : EngineEffect s t) (hp : s.pend.isSome = true) :
    t.status.busy = false ∧ t.status.done = true := by
  cases h with
  | idle hnone => simp [hnone] at hp
  | encoded | decoded | decodeFailed | configured | configureFailed | illegalFailed => exact ⟨rfl, rfl⟩

/-- At the engine's turn a pending command completes (R106). -/
theorem step_completes {s : State} (hp : s.pend.isSome = true) (hn : engineIsNext s) :
    ∃ u, step s = .next u ∧ u.pend = none ∧ u.status.busy = false ∧ u.status.done = true := by
  obtain ⟨u, hu⟩ := engineTurn_answers s.dropEvent
  have heffect := engineTurn_engineEffect hu
  exact ⟨u, (step_of_engineIsNext hn).trans hu, heffect.pend_eq_none, heffect.status_of_pending hp⟩

/-- A step before the engine's turn, when it is no reset, keeps the pending command. -/
theorem step_keeps_pend {s t : State} (hp : s.pend.isSome = true) (hnoEngine : ¬ engineIsNext s)
    (hnoReset : ¬ resetIsNext s) (h : step s = .next t) : t.pend = s.pend := by
  cases step_stepEffect h with
  | engine hn _ => exact absurd hn hnoEngine
  | host _ hh => exact (hh.sameOperands hp).pend
  | reset hn => exact absurd hn hnoReset

/-- Without a reset on the schedule the engine comes to its turn with the pending command still pending (R106). -/
theorem run_reaches_engine {es : List Event} (hnoReset : .reset ∉ es) {s : State} (hs : s.schedule = es)
    (hp : s.pend.isSome = true) :
    ∃ k t, k ≤ es.length ∧ Sys2Proof.core.run k s = .next t ∧ t.pend = s.pend ∧ engineIsNext t := by
  induction es generalizing s with
  | nil => exact ⟨0, s, Nat.le_refl 0, rfl, rfl, .inl hs⟩
  | cons e rest ih =>
    by_cases hn : engineIsNext s
    · exact ⟨0, s, Nat.zero_le _, rfl, rfl, hn⟩
    · obtain ⟨hreset, hrest⟩ := not_or.mp (mt List.mem_cons.mpr hnoReset)
      obtain ⟨s', hstep⟩ := step_answers s
      have hsame : s'.pend = s.pend := step_keeps_pend hp hn (by simp [resetIsNext, hs, Ne.symm hreset]) hstep
      obtain ⟨k, t, hk, hrun, hpend, hnext⟩ :=
        ih hrest (by rw [step_schedule hstep, hs, List.tail_cons]) (by rw [hsame, hp])
      exact ⟨k + 1, t, Nat.succ_le_succ hk, by rw [run_succ_of_step hstep, hrun], hpend.trans hsame, hnext⟩

/-- One step more than there are scheduled events leaves nothing pending and nothing scheduled (R106, R230). -/
theorem run_drains {es : List Event} {s : State} (hs : s.schedule = es) :
    ∃ t, Sys2Proof.core.run (es.length + 1) s = .next t ∧ t.pend = none ∧ t.schedule = [] := by
  induction es generalizing s with
  | nil =>
    obtain ⟨t, hstep⟩ := step_answers s
    have hturn : engineTurn s.dropEvent = .next t := (step_of_engineIsNext (.inl hs)).symm.trans hstep
    refine ⟨t, run_succ_of_step hstep 0, (engineTurn_engineEffect hturn).pend_eq_none, ?_⟩
    rw [step_schedule hstep, hs, List.tail_nil]
  | cons e rest ih =>
    obtain ⟨t, hstep⟩ := step_answers s
    rw [List.length_cons, run_succ_of_step hstep]
    exact ih (by rw [step_schedule hstep, hs, List.tail_cons])

/-- Settles O9, by induction on the schedule: a host transaction keeps the command, the engine's turn completes it. -/
theorem pendingCommandCompletes : Obligations.PendingCommandCompletes := by
  unfold Obligations.PendingCommandCompletes
  constructor
  · intro s hp hnoReset
    obtain ⟨k, t, hk, hrun, hpend, hnext⟩ := run_reaches_engine hnoReset rfl hp
    obtain ⟨u, hu, hdone⟩ := step_completes (by rw [hpend, hp]) hnext
    exact ⟨k, t, u, hk, hrun, hpend, hnext, hu, hdone⟩
  · intro s
    exact run_drains rfl

end Sys2Proof.Machine
end

-- ==== Proofs: the decode tables ====
section
/-! PROOFS. The decode table of an alphabet (41_configure.md R131 to R137): the bytes one symbol registers are those whose glyph
it is, so the entry of a byte is the index of its glyph. The statements of R136 and R137 follow from that. -/

namespace Sys2Proof.Machine

/-- Settles O37. -/
theorem canonicalSymbols : Obligations.CanonicalSymbols := by
  unfold Obligations.CanonicalSymbols
  decide +kernel

/-! ### The bytes of one symbol -/

theorem entryAt_foldl_setEntry (bs : List Byte) (t : Vector DecEntry 256) (e : DecEntry) (b : Byte) :
    entryAt (bs.foldl (fun t c => setEntry t c e) t) b = if b ∈ bs then e else entryAt t b := by
  induction bs generalizing t with
  | nil => simp
  | cons c cs ih =>
    rw [List.foldl_cons, ih, entryAt_setEntry]
    by_cases hb : b ∈ cs
    · simp [hb]
    · by_cases hc : c = b
      · simp [hc]
      · simp [hb, hc, Ne.symm hc]

/-- The bytes that a symbol registers (R137): itself, its lowercase form, and the look-alikes of '0' and '1'. -/
def symbolBytes (c : Byte) : List Byte :=
  [c, lower c] ++ (if c = 0x30#8 then [0x4F#8, 0x6F#8] else []) ++
    (if c = 0x31#8 then [0x49#8, 0x69#8, 0x4C#8, 0x6C#8] else [])

theorem registerSymbol_eq_foldl (t : Vector DecEntry 256) (c : Byte) (d : Digit) :
    registerSymbol t c d = (symbolBytes c).foldl (fun t b => setEntry t b (.digit d)) t := by
  unfold registerSymbol symbolBytes
  by_cases h0 : c = 0x30#8
  · simp [h0]
  · by_cases h1 : c = 0x31#8 <;> simp [h0, h1]

theorem isCanon_iff_mem (c : Byte) : isCanon c = true ↔ c ∈ canon.toList := List.contains_iff_mem

theorem glyph_symbolBytes : canon.toList.all (fun c => (symbolBytes c).all fun b => glyph b == c) = true := by
  decide +kernel

theorem mem_symbolBytes_glyph_or : ∀ b : Byte, b ∈ symbolBytes (glyph b) ∨ isDigitByte b = false := by decide +kernel

/-- A canonical symbol registers exactly the bytes whose glyph it is (R136). -/
theorem mem_symbolBytes_iff {c : Byte} (hc : isCanon c = true) (b : Byte) : b ∈ symbolBytes c ↔ glyph b = c := by
  constructor
  · intro hb
    have hall := List.all_eq_true.mp glyph_symbolBytes c ((isCanon_iff_mem c).mp hc)
    exact beq_iff_eq.mp (List.all_eq_true.mp hall b hb)
  · rintro rfl
    exact (mem_symbolBytes_glyph_or b).resolve_right (by simpa [isDigitByte] using hc)

theorem entryAt_registerSymbol {c : Byte} (hc : isCanon c = true) (t : Vector DecEntry 256) (d : Digit) (b : Byte) :
    entryAt (registerSymbol t c d) b = if glyph b = c then .digit d else entryAt t b := by
  simp only [registerSymbol_eq_foldl, entryAt_foldl_setEntry, mem_symbolBytes_iff hc]

/-! ### The symbol loop -/

theorem entryAt_registerFrom_of_not_mem {cs : List Byte} (hcanon : CanonText cs) (d : Nat) (t : Vector DecEntry 256)
    {b : Byte} (hb : glyph b ∉ cs) : entryAt (registerFrom d cs t) b = entryAt t b := by
  induction cs generalizing d t with
  | nil => rfl
  | cons c cs ih =>
    obtain ⟨hc, hcs⟩ := List.forall_mem_cons.mp hcanon
    obtain ⟨hne, hrest⟩ := List.ne_and_not_mem_of_not_mem_cons hb
    rw [registerFrom, ih hcs _ _ hrest, entryAt_registerSymbol hc, if_neg hne]

/-- In a list without repetition the symbol at index `i` is registered once, with the coded digit of that index. -/
theorem entryAt_registerFrom_of_getElem {cs : List Byte} (hcanon : CanonText cs) (hnodup : cs.Nodup) (d : Nat)
    (t : Vector DecEntry 256) {b : Byte} {i : Nat} (hi : i < cs.length) (hb : cs[i] = glyph b) :
    entryAt (registerFrom d cs t) b = .digit (BitVec.ofNat 5 (d + i)) := by
  induction cs generalizing d t i with
  | nil => cases hi
  | cons c cs ih =>
    obtain ⟨hc, hcs⟩ := List.forall_mem_cons.mp hcanon
    obtain ⟨hnew, hrest⟩ := List.nodup_cons.mp hnodup
    rw [registerFrom]
    cases i with
    | zero =>
      have hglyph : glyph b = c := hb.symm
      rw [entryAt_registerFrom_of_not_mem hcs _ _ (hglyph ▸ hnew), entryAt_registerSymbol hc, if_pos hglyph, Nat.add_zero]
    | succ i => rw [ih hcs hrest _ _ (Nat.lt_of_succ_lt_succ hi) hb, Nat.add_right_comm, Nat.add_assoc]

/-! ### Alphabets -/

theorem canonText_of_isAlphabet {p : Vector Byte 32} (h : isAlphabet p = true) : CanonText p.toList :=
  ((isAlphabet_iff p).mp h).1

/-- No two places of an alphabet hold the same symbol (R135). -/
theorem getElem_injective_of_isAlphabet {p : Vector Byte 32} (h : isAlphabet p = true) {i j : Fin 32}
    (hij : p[i] = p[j]) : i = j := by
  obtain ⟨-, hnodup⟩ := (isAlphabet_iff p).mp h
  exact Fin.ext ((hnodup.getElem_inj_iff (hi := by simp) (hj := by simp)).mp (by simpa using hij))

/-- Every canonical symbol stands in an alphabet: 32 distinct symbols out of 32 are all of them (R135). -/
theorem exists_getElem_of_isAlphabet {p : Vector Byte 32} (h : isAlphabet p = true) {c : Byte} (hc : isCanon c = true) :
    ∃ i : Fin 32, p[i] = c := by
  obtain ⟨hcanon, hnodup⟩ := (isAlphabet_iff p).mp h
  have hsubset : p.toList ⊆ canon.toList := fun b hb => (isCanon_iff_mem b).mp (hcanon b hb)
  have hperm : p.toList.Perm canon.toList :=
    (List.subperm_of_subset hnodup hsubset).perm_of_length_le (by simp)
  obtain ⟨i, hi, hget⟩ := List.getElem_of_mem (hperm.mem_iff.mpr ((isCanon_iff_mem c).mp hc))
  exact ⟨⟨i, by simpa using hi⟩, by simpa using hget⟩

/-! ### The entries of a decode table -/

theorem entryAt_buildDec_of_getElem (cs : List Byte) {p : Vector Byte 32} (h : isAlphabet p = true) {b : Byte}
    {i : Fin 32} (hi : p[i] = glyph b) : entryAt (buildDec cs p) b = .digit (BitVec.ofNat 5 i.val) := by
  obtain ⟨hcanon, hnodup⟩ := (isAlphabet_iff p).mp h
  rw [buildDec, entryAt_registerFrom_of_getElem hcanon hnodup 0 _ (i := i) (by simp) (by simpa using hi), Nat.zero_add]

theorem entryAt_buildDec_of_not_isDigitByte (cs : List Byte) {p : Vector Byte 32} (h : isAlphabet p = true) {b : Byte}
    (hb : isDigitByte b = false) : entryAt (buildDec cs p) b = if b ∈ cs then .check else .invalid := by
  have hcanon := canonText_of_isAlphabet h
  have hnot : glyph b ∉ p.toList := fun hmem => Bool.false_ne_true (hb.symm.trans (hcanon _ hmem))
  have hinvalid : entryAt (Vector.replicate 256 .invalid) b = .invalid := Vector.getElem_replicate _
  rw [buildDec, entryAt_registerFrom_of_not_mem hcanon _ _ hnot, entryAt_foldl_setEntry, hinvalid]

theorem exists_digit_of_isDigitByte (cs : List Byte) {p : Vector Byte 32} (h : isAlphabet p = true) {b : Byte}
    (hb : isDigitByte b = true) :
    ∃ i : Fin 32, p[i] = glyph b ∧ entryAt (buildDec cs p) b = .digit (BitVec.ofNat 5 i.val) := by
  obtain ⟨i, hi⟩ := exists_getElem_of_isAlphabet h hb
  exact ⟨i, hi, entryAt_buildDec_of_getElem cs h hi⟩

/-- The bytes with a digit are the same under every alphabet (R133, R137). -/
theorem isDigitByte_iff_exists_digit (cs : List Byte) {p : Vector Byte 32} (h : isAlphabet p = true) (b : Byte) :
    isDigitByte b = true ↔ ∃ d, entryAt (buildDec cs p) b = .digit d := by
  constructor
  · intro hb
    obtain ⟨i, -, hentry⟩ := exists_digit_of_isDigitByte cs h hb
    exact ⟨_, hentry⟩
  · rintro ⟨d, hd⟩
    by_contra hb
    rw [entryAt_buildDec_of_not_isDigitByte cs h (by simpa using hb)] at hd
    split at hd <;> cases hd

/-- The digit of a byte is the place of its glyph in the alphabet (R137). -/
theorem entryAt_buildDec_eq_digit_iff (cs : List Byte) {p : Vector Byte 32} (h : isAlphabet p = true) (b : Byte)
    (i : Fin 32) : entryAt (buildDec cs p) b = .digit (BitVec.ofNat 5 i.val) ↔ p[i] = glyph b := by
  constructor
  · intro hentry
    obtain ⟨j, hj, hentry'⟩ := exists_digit_of_isDigitByte cs h
      ((isDigitByte_iff_exists_digit cs h b).mpr ⟨_, hentry⟩)
    have hdigit : BitVec.ofNat 5 i.val = BitVec.ofNat 5 j.val := DecEntry.digit.inj (hentry.symm.trans hentry')
    have hij : i = j := by
      have hnat := congrArg BitVec.toNat hdigit
      simp only [BitVec.toNat_ofNat] at hnat
      omega
    rw [hij, hj]
  · exact entryAt_buildDec_of_getElem cs h

/-- Settles O38. -/
theorem decodeTableEntries : Obligations.DecodeTableEntries := by
  unfold Obligations.DecodeTableEntries
  intro cs a _ ha b
  refine ⟨fun d => ?_, isDigitByte_iff_exists_digit cs ha b, entryAt_buildDec_of_not_isDigitByte cs ha⟩
  simpa [Active.symbol] using entryAt_buildDec_eq_digit_iff cs ha b d.toFin

/-- Settles O39: `D0` is the decode table of the canonical alphabet. -/
theorem decodeTableFromCanonical : Obligations.DecodeTableFromCanonical := by
  unfold Obligations.DecodeTableFromCanonical
  intro cs p _ hp b
  constructor
  · intro k hk
    have hglyph : canon[k] = glyph b := (entryAt_buildDec_eq_digit_iff cs isAlphabet_canon b k).mp hk
    have hdigit : isDigitByte b = true := (isDigitByte_iff_exists_digit cs isAlphabet_canon b).mpr ⟨_, hk⟩
    obtain ⟨i, hi, hentry⟩ := exists_digit_of_isDigitByte cs hp hdigit
    rw [hglyph]
    exact ⟨i, ⟨hi, hentry⟩, fun j ⟨hj, _⟩ => getElem_injective_of_isAlphabet hp (hj.trans hi.symm)⟩
  · intro hnone
    have hb : isDigitByte b = false := by
      rw [← Bool.not_eq_true, isDigitByte_iff_exists_digit cs isAlphabet_canon]
      exact fun ⟨k, hk⟩ => hnone k hk
    rw [entryAt_buildDec_of_not_isDigitByte cs hp hb, entryAt_buildDec_of_not_isDigitByte cs isAlphabet_canon hb]

/-! ### The look-alikes -/

theorem entryAt_buildDec_eq_of_glyph_eq (cs : List Byte) {p : Vector Byte 32} (h : isAlphabet p = true) {b c : Byte}
    (hb : isDigitByte b = true) (hglyph : glyph b = glyph c) : entryAt (buildDec cs p) b = entryAt (buildDec cs p) c := by
  obtain ⟨i, hi, hentry⟩ := exists_digit_of_isDigitByte cs h hb
  rw [hentry, entryAt_buildDec_of_getElem cs h (hi.trans hglyph)]

theorem glyph_lookAlike_zero :
    ∀ b ∈ ([0x4F, 0x6F] : List Byte), isDigitByte b = true ∧ glyph b = glyph 0x30 := by decide

theorem glyph_lookAlike_one :
    ∀ b ∈ ([0x49, 0x69, 0x4C, 0x6C] : List Byte), isDigitByte b = true ∧ glyph b = glyph 0x31 := by decide

/-- Every other byte stands for its uppercase form (R136). -/
theorem glyph_eq_upper : ∀ b : Byte, b ∉ ([0x4F, 0x6F, 0x49, 0x69, 0x4C, 0x6C] : List Byte) → glyph b = upper b := by
  decide +kernel

/-- Settles O40: bytes with one glyph have one entry. -/
theorem lookAlikesFollowGlyph : Obligations.LookAlikesFollowGlyph := by
  unfold Obligations.LookAlikesFollowGlyph
  intro cs p _ hp
  refine ⟨fun b hb => ?_, fun b hb => ?_, fun i hi => ?_, fun i hi => ?_, fun b hb i => ?_⟩
  · obtain ⟨hdigit, hglyph⟩ := glyph_lookAlike_zero b hb
    exact entryAt_buildDec_eq_of_glyph_eq cs hp hdigit hglyph
  · obtain ⟨hdigit, hglyph⟩ := glyph_lookAlike_one b hb
    exact entryAt_buildDec_eq_of_glyph_eq cs hp hdigit hglyph
  · exact entryAt_buildDec_of_getElem cs hp hi
  · exact entryAt_buildDec_of_getElem cs hp hi
  · rw [← glyph_eq_upper b hb]
    exact entryAt_buildDec_eq_digit_iff cs hp b i

end Sys2Proof.Machine
end

-- ==== Proofs: the keystream and CONFIGURE ====
section
/-! PROOFS. The keystream of a configuration (41_configure.md R142 to R144), and what CONFIGURE installs, refuses and leaves
unchanged (R138 to R141). -/

namespace Sys2Proof.Machine

/-! ### The keystream -/

/-- A draw reads one salt byte below the salt length, of the 13 stored ones (R143). -/
theorem keystream_index_lt {n j : Nat} (hn : n ≠ 0) (hj : j < 13) : j % n < 13 ∧ j % n < n :=
  ⟨(Nat.mod_le j n).trans_lt hj, Nat.mod_lt j (Nat.pos_of_ne_zero hn)⟩

theorem toNat_ne_zero_of_ne {w : Word} (h : w ≠ 0) : w.toNat ≠ 0 := fun h0 => h (BitVec.eq_of_toNat_eq h0)

theorem keystream_eq (a : Active) {i j : Nat} (hindex : j % a.saltLen.toNat = i) (hi : i < 13) :
    a.keystream j = a.salt[i].extractLsb' 0 5 := by
  simp [Active.keystream, hindex, hi]

/-- A salt of 13 bytes or more is read in order (R142). -/
theorem mod_saltLen_of_long {n : Word} (hn : 13 ≤ n) {j : Nat} (hj : j < 13) : j % n.toNat = j :=
  Nat.mod_eq_of_lt (hj.trans_le (BitVec.le_def.mp hn))

/-- Settles O36. -/
theorem keystreamReadsStoredSalt : Obligations.KeystreamReadsStoredSalt := by
  unfold Obligations.KeystreamReadsStoredSalt
  intro a j hj hlen
  obtain ⟨h13, hbelow⟩ := keystream_index_lt (toNat_ne_zero_of_ne hlen) hj
  exact ⟨⟨h13, hbelow, keystream_eq a rfl h13⟩, fun hlong => keystream_eq a (mod_saltLen_of_long hlong hj) hj⟩

/-- Settles O35. -/
theorem keystreamProperties : Obligations.KeystreamProperties := by
  unfold Obligations.KeystreamProperties
  refine ⟨fun a j d => ?_, fun a b hlen hsalt hlens j hj => ?_, fun a hlen hsalt j hj => ?_⟩
  · rw [BitVec.xor_assoc, BitVec.xor_self, BitVec.xor_zero]
  · obtain ⟨h13, hbelow⟩ := keystream_index_lt (toNat_ne_zero_of_ne hlen) hj
    have hindex : j % b.saltLen.toNat = j % a.saltLen.toNat := by
      obtain heq | ⟨hlongA, hlongB⟩ := hlens
      · rw [heq]
      · rw [mod_saltLen_of_long hlongA hj, mod_saltLen_of_long hlongB hj]
    rw [keystream_eq a rfl h13, keystream_eq b hindex h13]
    exact hsalt ⟨_, h13⟩ hbelow
  · obtain ⟨h13, hbelow⟩ := keystream_index_lt (toNat_ne_zero_of_ne hlen) hj
    rw [keystream_eq a rfl h13]
    exact hsalt ⟨_, h13⟩ hbelow

/-! ### The check of the staged alphabet -/

/-- The first refused index is refused and every smaller one is accepted (R139). -/
theorem firstBadIndex_eq_some_iff (perm : Vector Word 8) (i : Nat) :
    firstBadIndex perm = some i ↔ i < 32 ∧ badAlphabetAt perm i = true ∧ ∀ j, j < i → badAlphabetAt perm j = false := by
  rw [firstBadIndex, List.find?_range_eq_some]
  simp [List.mem_range, and_left_comm]

theorem firstBadIndex_eq_none_iff (perm : Vector Word 8) :
    firstBadIndex perm = none ↔ ∀ i, i < 32 → badAlphabetAt perm i = false := by
  simp [firstBadIndex]

/-- Canonical, pairwise distinct folded bytes pass the check (R139). -/
theorem firstBadIndex_eq_none_of_good {perm : Vector Word 8}
    (hcanon : ∀ i, i < 32 → isCanon (upper (textByte perm i)) = true)
    (hdistinct : ∀ i j, i < j → j < 32 → upper (textByte perm i) ≠ upper (textByte perm j)) :
    firstBadIndex perm = none :=
  (firstBadIndex_eq_none_iff perm).mpr fun i hi =>
    (badAlphabetAt_eq_false_iff perm i).mpr ⟨hcanon i hi, fun j hj => hdistinct j i hj hi⟩

theorem configureFailure_of_badIndex {s : State} {i : Nat} (h : firstBadIndex s.perm = some i) :
    configureFailure s = some { code := .badAlphabet, pos := BitVec.ofNat 8 i, byte := textByte s.perm i } := by
  simp only [configureFailure, h]

/-- The alphabet is checked before the salt length (R203). -/
theorem configureFailure_of_emptySalt {s : State} (h : firstBadIndex s.perm = none) (hsalt : s.saltLen = 0) :
    configureFailure s = some { code := .emptySalt } := by
  simp only [configureFailure, h, hsalt, if_pos]

/-! ### The two outcomes -/

theorem exec_configure_of_failure {s : State} {f : Failure} (h : configureFailure s = some f) :
    exec .configure s = .next (fail s f) := by
  obtain ⟨g, hg, hexec⟩ | ⟨hnone, -⟩ := execConfigure_cases s
  · obtain rfl : g = f := Option.some.inj (hg.symm.trans h)
    exact hexec
  · exact absurd (hnone.symm.trans h) (by simp)

theorem exec_configure_of_success {s : State} (h : configureFailure s = none) :
    exec .configure s = .next (complete (s.install (stagedConfiguration s))) := by
  obtain ⟨f, hf, -⟩ | ⟨-, hexec⟩ := execConfigure_cases s
  · exact absurd (hf.symm.trans h) (by simp)
  · exact hexec

/-- A failed CONFIGURE changes the sequencing and the report alone (R205). -/
theorem fail_of_configure {s : State} (hp : s.pend = some .configure) (f : Failure) :
    fail s f = { s with pend := none, status := failedFlags s, errInfo := f.info } := by
  simp [fail, hp, failedFlags, Status.completed]

/-- Settles O42. -/
theorem configureInstalls : Obligations.ConfigureInstalls := by
  unfold Obligations.ConfigureInstalls
  intro s hcanon hdistinct hsalt
  have hgood := firstBadIndex_eq_none_of_good hcanon hdistinct
  have hexec := exec_configure_of_success ((configureFailure_eq_none_iff s).mpr ⟨hgood, hsalt⟩)
  refine ⟨_, hexec, rfl, fun i => ?_, ?_, fun i => ?_, ?_, ?_⟩
  · simp [foldedAlphabet, foldedByte]
  · simp
  · simp [stagedSalt]
  · simp
  · simpa using isAlphabet_foldedAlphabet hgood

/-- Settles O43. -/
theorem configureReportsFirstBadByte : Obligations.ConfigureReportsFirstBadByte := by
  unfold Obligations.ConfigureReportsFirstBadByte
  intro s i hp hi hbefore hbad
  have hrefused : badAlphabetAt s.perm i = true := by
    rw [← Bool.not_eq_false, badAlphabetAt_eq_false_iff]
    rintro ⟨hcanon, hnew⟩
    obtain hnot | ⟨k, hk, hrepeat⟩ := hbad
    · exact Bool.false_ne_true (hnot.symm.trans hcanon)
    · exact hnew k hk hrepeat
  have haccepted : ∀ j, j < i → badAlphabetAt s.perm j = false := fun j hj =>
    (badAlphabetAt_eq_false_iff s.perm j).mpr (hbefore j hj)
  have hfirst := (firstBadIndex_eq_some_iff s.perm i).mpr ⟨hi, hrefused, haccepted⟩
  rw [exec_configure_of_failure (configureFailure_of_badIndex hfirst), fail_of_configure hp]
  rfl

/-- Settles O44. -/
theorem configureRejectsEmptySalt : Obligations.ConfigureRejectsEmptySalt := by
  unfold Obligations.ConfigureRejectsEmptySalt
  intro s hp hcanon hdistinct hsalt
  have hgood := firstBadIndex_eq_none_of_good hcanon hdistinct
  rw [exec_configure_of_failure (configureFailure_of_emptySalt hgood hsalt), fail_of_configure hp]
  rfl

/-! ### CONFIGURE again -/

/-- The check reads the staged alphabet and the salt length alone. -/
theorem configureFailure_congr {s t : State} (hperm : t.perm = s.perm) (hlen : t.saltLen = s.saltLen) :
    configureFailure t = configureFailure s := by
  simp only [configureFailure, hperm, hlen]

/-- The configuration to install depends on the staging registers and `CHECK_SET` alone. -/
theorem stagedConfiguration_congr {s t : State} (hperm : t.perm = s.perm) (hsalt : t.salt = s.salt)
    (hlen : t.saltLen = s.saltLen) (hparams : t.params = s.params) :
    stagedConfiguration t = stagedConfiguration s := by
  simp only [stagedConfiguration, hperm, hsalt, hlen, hparams]

theorem fail_start_fail {s : State} (hp : s.pend = some .configure) (f : Failure) :
    fail ((fail s f).start .configure) f = fail s f := by
  rw [fail_of_configure rfl, fail_of_configure hp]
  rfl

theorem complete_start_complete (s : State) :
    let t := complete (s.install (stagedConfiguration s))
    complete ((t.start .configure).install (stagedConfiguration (t.start .configure))) = t := by
  intro t
  have hstaged : stagedConfiguration (t.start .configure) = stagedConfiguration s :=
    stagedConfiguration_congr rfl rfl rfl rfl
  rw [hstaged]
  rfl

/-- Settles O46: acceptance and completion keep the staging, so the second completion repeats the first. -/
theorem configureTwiceIsOnce : Obligations.ConfigureTwiceIsOnce := by
  unfold Obligations.ConfigureTwiceIsOnce
  intro s hp
  cases hcheck : configureFailure s with
  | some f =>
    have hagain : configureFailure ((fail s f).start .configure) = some f :=
      (configureFailure_congr rfl rfl).trans hcheck
    exact ⟨_, _, exec_configure_of_failure hcheck, exec_configure_of_failure hagain, fail_start_fail hp f⟩
  | none =>
    have hagain : configureFailure ((complete (s.install (stagedConfiguration s))).start .configure) = none :=
      (configureFailure_congr rfl rfl).trans hcheck
    exact ⟨_, _, exec_configure_of_success hcheck, exec_configure_of_success hagain, complete_start_complete s⟩

end Sys2Proof.Machine
end

-- ==== Proofs: ENCODE ====
section
/-! PROOFS. The bit-packing loop of ENCODE writes the base-32 digits of the value (42_encode.md R161 to R170). The argument
turns on the working register with `j` digits still to come: its top quintet is the next digit, and it equals `STOP` exactly
when none is left. -/

namespace Sys2Proof.Machine

/-! ### The length -/

theorem pow_thirtyTwo (j : Nat) : 32 ^ j = 2 ^ (5 * j) := by rw [Nat.pow_mul]

/-- The length counts the base-32 digits (R167); only the text of 0 has a digit more than the value needs. -/
theorem encodedLength_le_iff {v : Value} {j : Nat} (hj : v = 0 → 0 < j) : encodedLength v ≤ j ↔ v.toNat < 32 ^ j := by
  unfold encodedLength
  split
  · next hv =>
    subst hv
    exact iff_of_true (hj rfl) (by simp)
  · next hv =>
    rw [pow_thirtyTwo, ← Nat.log2_lt (by simpa using BitVec.toNat_ne_iff_ne.mpr hv)]
    omega

theorem encodedLength_pos (v : Value) : 0 < encodedLength v := by
  unfold encodedLength
  split <;> omega

theorem encodedLength_le (v : Value) : encodedLength v ≤ 13 :=
  (encodedLength_le_iff (by simp)).mpr (v.isLt.trans (by decide))

/-- The value has no more digits than its text. -/
theorem toNat_lt_pow_encodedLength (v : Value) : v.toNat < 32 ^ encodedLength v :=
  (encodedLength_le_iff fun _ => encodedLength_pos v).mp (Nat.le_refl _)

theorem encodedLength_le_twelve_iff (v : Value) : encodedLength v ≤ 12 ↔ v.toNat < 2 ^ 60 :=
  encodedLength_le_iff (by simp)

theorem encodedLength_eq_thirteen_iff (v : Value) : encodedLength v = 13 ↔ 2 ^ 60 ≤ v.toNat := by
  have hmax := encodedLength_le v
  have htwelve := encodedLength_le_twelve_iff v
  omega

/-! ### The digits -/

theorem trueDigit_leading (v : Value) (j : Nat) : trueDigit v (j + 1) 0 = BitVec.ofNat 5 (v.toNat / 32 ^ j) := rfl

theorem trueDigit_succ (v : Value) (j i : Nat) : trueDigit v (j + 1) (i + 1) = trueDigit v j i := by
  rw [trueDigit, trueDigit, Nat.add_sub_cancel, Nat.sub_sub, Nat.add_comm 1 i]

/-- The leading digit of a value that has no more digits is what is left of the value above the other digits. -/
theorem toNat_trueDigit_leading {v : Value} {j : Nat} (h : v.toNat < 32 ^ (j + 1)) :
    (trueDigit v (j + 1) 0).toNat = v.toNat / 32 ^ j := by
  have hlt : v.toNat / 32 ^ j < 32 := Nat.div_lt_of_lt_mul h
  rw [trueDigit_leading, BitVec.toNat_ofNat, Nat.mod_eq_of_lt hlt]

/-- A leading 0 is a digit the text of the value does not have (R163, R168). -/
theorem trueDigit_leading_eq_zero_iff {v : Value} (hv : v ≠ 0) {j : Nat} (h : encodedLength v ≤ j + 1) :
    trueDigit v (j + 1) 0 = 0 ↔ encodedLength v ≤ j := by
  have hle : ∀ i, encodedLength v ≤ i ↔ v.toNat < 32 ^ i := fun i => encodedLength_le_iff fun h0 => absurd h0 hv
  rw [hle] at h ⊢
  rw [← BitVec.toNat_inj, toNat_trueDigit_leading h]
  exact Nat.div_eq_zero_iff_lt (by positivity)

/-- No text begins with the digit 0, except that of 0 (R168). -/
theorem trueDigit_encodedLength_ne_zero {v : Value} (hv : v ≠ 0) : trueDigit v (encodedLength v) 0 ≠ 0 := by
  obtain ⟨j, hj⟩ := Nat.exists_eq_succ_of_ne_zero (encodedLength_pos v).ne'
  rw [hj, Ne, trueDigit_leading_eq_zero_iff hv hj.le, hj]
  exact Nat.not_succ_le_self j

/-- The leading digit of 13 is a group of 4 bits (R168). -/
theorem trueDigit_thirteen_le (v : Value) : trueDigit v 13 0 ≤ 15 := by
  rw [BitVec.le_def, toNat_trueDigit_leading (v.isLt.trans (by decide))]
  exact Nat.le_of_lt_succ (Nat.div_lt_of_lt_mul v.isLt)

/-- The symbols of the last `j` digits of a value, the first one at the keystream draw `draw` (R165, R168). -/
def digitText (a : Active) (v : Value) (j draw : Nat) : List Byte :=
  (List.range j).map fun i => a.symbol (trueDigit v j i ^^^ a.keystream (draw + i))

@[simp] theorem length_digitText (a : Active) (v : Value) (j draw : Nat) : (digitText a v j draw).length = j := by
  simp [digitText]

theorem getElem_digitText (a : Active) (v : Value) {j i : Nat} (draw : Nat) (h : i < (digitText a v j draw).length) :
    (digitText a v j draw)[i] = a.symbol (trueDigit v j i ^^^ a.keystream (draw + i)) := by
  simp [digitText]

theorem digitText_succ (a : Active) (v : Value) (j draw : Nat) :
    digitText a v (j + 1) draw =
      a.symbol (trueDigit v (j + 1) 0 ^^^ a.keystream draw) :: digitText a v j (draw + 1) := by
  simp [digitText, List.range_succ_eq_map, trueDigit_succ, Nat.add_assoc, Nat.add_comm 1, Function.comp_def]

theorem emit_append_digitText (a : Active) (v : Value) (j : Nat) (out : List Byte) :
    emit a out (trueDigit v (j + 1) 0) ++ digitText a v j (emit a out (trueDigit v (j + 1) 0)).length =
      out ++ digitText a v (j + 1) out.length := by
  rw [length_emit, digitText_succ, emit, List.append_assoc, List.singleton_append]

/-! ### The working register -/

/-- The working register when `j` digits are still to come (R161, R164). -/
def workAt (marker : BitVec 4) (v : Value) (j : Nat) : Value := loadMarked marker v <<< (5 * (12 - j))

theorem workAt_twelve (marker : BitVec 4) (v : Value) : workAt marker v 12 = loadMarked marker v := by
  simp [workAt]

theorem workAt_zero (marker : BitVec 4) (v : Value) : workAt marker v 0 = stopValue marker :=
  loadMarked_shift_sixty marker v

theorem workAt_shift (marker : BitVec 4) (v : Value) {j : Nat} (hj : j < 12) :
    workAt marker v (j + 1) <<< 5 = workAt marker v j := by
  have hshift : 5 * (12 - (j + 1)) + 5 = 5 * (12 - j) := by omega
  rw [workAt, workAt, ← BitVec.shiftLeft_add, hshift]

theorem getLsbD_loadMarked (marker : BitVec 4) (v : Value) (i : Nat) :
    (loadMarked marker v).getLsbD i = if i < 4 then marker.getLsbD i else decide (i < 64) && v.getLsbD (i - 4) := by
  by_cases hi : i < 4
  · simp [loadMarked, hi, show i < 64 by omega]
  · have hmarker : marker.getLsbD i = false := BitVec.getLsbD_of_ge _ _ (by omega)
    simp [loadMarked, hi, hmarker]

/-- The top quintet is the next digit (R164). -/
theorem topQuintet_workAt (marker : BitVec 4) (v : Value) {j : Nat} (hj : j < 12) :
    topQuintet (workAt marker v (j + 1)) = trueDigit v (j + 1) 0 := by
  apply BitVec.eq_of_getLsbD_eq
  intro i hi
  have hdigit : (trueDigit v (j + 1) 0).getLsbD i = v.getLsbD (i + 5 * j) := by
    rw [trueDigit_leading, pow_thirtyTwo, BitVec.getLsbD_ofNat, Nat.testBit_div_two_pow, decide_eq_true hi, Bool.true_and,
      BitVec.getLsbD]
  have hsource : 59 + i - 5 * (12 - (j + 1)) = i + 5 * j + 4 := by omega
  rw [hdigit, topQuintet, BitVec.getLsbD_extractLsb', workAt, BitVec.getLsbD_shiftLeft, hsource, getLsbD_loadMarked]
  simp only [hi, show 59 + i < 64 by omega, show ¬ 59 + i < 5 * (12 - (j + 1)) by omega, show ¬ i + 5 * j + 4 < 4 by omega,
    show i + 5 * j + 4 < 64 by omega, decide_true, decide_false, Bool.not_false, Bool.true_and, if_false, Nat.add_sub_cancel]

/-- While digits are left, the marker stands below the place it has in `STOP` (R164). -/
theorem workAt_ne_stopValue {marker : BitVec 4} (hm : marker ≠ 0) (v : Value) {j : Nat} (hj : j < 12) :
    workAt marker v (j + 1) ≠ stopValue marker := by
  intro hstop
  refine hm (BitVec.eq_of_getLsbD_eq fun i hi => ?_)
  have hbit := congrArg (fun w => w.getLsbD (5 * (11 - j) + i)) hstop
  have hbelow : 5 * (11 - j) + i < 60 := by omega
  have hin : 5 * (11 - j) + i < 64 := by omega
  have hzero : (loadMarked marker v).getLsbD i = false := by
    simpa [workAt, stopValue, hbelow, hin, show i < 64 by omega] using hbit
  rw [getLsbD_loadMarked, if_pos hi] at hzero
  exact hzero.trans BitVec.getLsbD_zero.symm

/-! ### The loops -/

/-- The emit loop writes the digits still to come and stops after the last one (R164). -/
theorem emitLoop_workAt (a : Active) {marker : BitVec 4} (hm : marker ≠ 0) (v : Value) {j k : Nat} (hj : j ≤ 12)
    (hk : j ≤ k) (out : List Byte) :
    emitLoop a (stopValue marker) k (workAt marker v j) out = out ++ digitText a v j out.length := by
  induction k generalizing j out with
  | zero =>
    obtain rfl : j = 0 := Nat.le_zero.mp hk
    simp [emitLoop, digitText]
  | succ k ih =>
    cases j with
    | zero => simp [emitLoop, workAt_zero, digitText]
    | succ j =>
      rw [emitLoop, if_neg (workAt_ne_stopValue hm v hj), workAt_shift _ _ hj, topQuintet_workAt _ _ hj,
        ih (by omega) (by omega), emit_append_digitText]

/-- The skip loop stops where as many digits are to come as the value has (R163). -/
theorem skipLeading_workAt (marker : BitVec 4) {v : Value} (hv : v ≠ 0) {j k : Nat} (hj : j ≤ 12)
    (hle : encodedLength v ≤ j) (hk : j ≤ encodedLength v + k) :
    skipLeading k (workAt marker v j) = workAt marker v (encodedLength v) := by
  induction k generalizing j with
  | zero => rw [skipLeading, Nat.le_antisymm hk hle, Nat.add_zero]
  | succ k ih =>
    have hpos := encodedLength_pos v
    obtain ⟨i, rfl⟩ := Nat.exists_eq_succ_of_ne_zero (n := j) (by omega)
    simp only [skipLeading, topQuintet_workAt _ _ hj, trueDigit_leading_eq_zero_iff hv hle]
    split
    · next hrest => rw [workAt_shift _ _ hj, ih (by omega) hrest (by omega)]
    · next hmore => rw [show encodedLength v = i + 1 by omega]

/-- The skip loop from the loaded register, within its bound of 11 shifts (R163). -/
theorem skipLeading_loadMarked (marker : BitVec 4) {v : Value} (hv : v ≠ 0) (hle : encodedLength v ≤ 12) :
    skipLeading 11 (loadMarked marker v) = workAt marker v (encodedLength v) := by
  have hpos := encodedLength_pos v
  rw [← workAt_twelve, skipLeading_workAt marker hv (Nat.le_refl 12) hle (by omega)]

/-! ### The leading group -/

theorem trueDigit_thirteen (v : Value) : trueDigit v 13 0 = (topGroup v).setWidth 5 := by
  apply BitVec.eq_of_toNat_eq
  have hlt := v.isLt
  rw [toNat_trueDigit_leading (v.isLt.trans (by decide)), topGroup, BitVec.toNat_setWidth, BitVec.extractLsb'_toNat,
    Nat.shiftRight_eq_div_pow]
  omega

/-- A value has a leading group exactly when it needs a 13th symbol (R163, R167). -/
theorem topGroup_eq_zero_iff (v : Value) : topGroup v = 0 ↔ encodedLength v ≤ 12 := by
  have hlt := v.isLt
  rw [encodedLength_le_twelve_iff, topGroup, ← BitVec.toNat_inj, BitVec.extractLsb'_toNat, Nat.shiftRight_eq_div_pow,
    BitVec.ofNat_eq_ofNat, BitVec.toNat_zero]
  omega

/-! ### The text -/

/-- ENCODE writes the base-32 digits of the value, most significant first, whatever the marker (R160 to R169). -/
theorem encodeWith_eq_digitText {marker : BitVec 4} (hm : marker ≠ 0) (a : Active) (v : Value) :
    encodeWith marker a v = digitText a v (encodedLength v) 0 := by
  unfold encodeWith
  split
  · next hv =>
    subst hv
    simp [emit, encodedLength, digitText, trueDigit]
  · next hv =>
    split
    · next htop =>
      have hmax := encodedLength_le v
      have hlen : encodedLength v = 13 := by
        rw [Ne, topGroup_eq_zero_iff] at htop
        omega
      rw [← workAt_twelve, emitLoop_workAt a hm v (Nat.le_refl 12) (by omega), ← trueDigit_thirteen, hlen]
      exact emit_append_digitText a v 12 []
    · next htop =>
      have hlen : encodedLength v ≤ 12 := (topGroup_eq_zero_iff v).mp (not_not.mp htop)
      rw [skipLeading_loadMarked marker hv hlen, emitLoop_workAt a hm v hlen (by omega)]
      rfl

theorem encodeText_eq_digitText (a : Active) (v : Value) : encodeText a v = digitText a v (encodedLength v) 0 :=
  encodeWith_eq_digitText (by decide) a v

@[simp] theorem length_encodeText (a : Active) (v : Value) : (encodeText a v).length = encodedLength v := by
  rw [encodeText_eq_digitText, length_digitText]

theorem exec_encode (s : State) : exec .encode s = .next (complete (s.setOutput (encodeText s.active s.value))) := rfl

/-- Byte `i` of the output registers is the symbol of digit `i` (R166). -/
theorem textByte_packText_encodeText (a : Active) (v : Value) {i : Nat} (hi : i < encodedLength v) :
    textByte (packText (encodeText a v)) i = a.symbol (trueDigit v (encodedLength v) i ^^^ a.keystream i) := by
  have hmax := encodedLength_le v
  rw [textByte_packText _ _ (by omega), encodeText_eq_digitText, List.getD_eq_getElem _ _ (by simpa using hi),
    getElem_digitText, Nat.zero_add]

/-! ### The statements -/

/-- Settles O47. -/
theorem encodeLength : Obligations.EncodeLength := by
  unfold Obligations.EncodeLength
  intro a v
  exact ⟨length_encodeText a v, encodedLength_pos v, encodedLength_le v, encodedLength_eq_thirteen_iff v⟩

/-- Settles O48: the text is that of the digits, and the packed text reads back. -/
theorem encodeWritesDigits : Obligations.EncodeWritesDigits := by
  unfold Obligations.EncodeWritesDigits
  intro s
  refine ⟨_, exec_encode s, rfl, ?_, fun i hi => ?_, fun i hi hi16 => ?_, trueDigit_encodedLength_ne_zero,
    fun hlen => ?_⟩
  · simp
  · simpa using textByte_packText_encodeText s.active s.value hi
  · rw [complete_outText, State.setOutput_outText, textByte_packText _ _ hi16, List.getD_eq_default _ _ (by simpa using hi)]
    rfl
  · rw [hlen]
    exact trueDigit_thirteen_le s.value

/-- Settles O49: the loop stops at the register whose top quintet is the leading digit. -/
theorem skipLoopEnds : Obligations.SkipLoopEnds := by
  unfold Obligations.SkipLoopEnds
  intro v hv htop
  have hlen : encodedLength v ≤ 12 := (topGroup_eq_zero_iff v).mp htop
  have hlead := trueDigit_encodedLength_ne_zero hv
  have hpos := encodedLength_pos v
  rw [skipLeading_loadMarked 0x8 hv hlen]
  refine ⟨?_, 12 - encodedLength v, by omega, rfl⟩
  obtain ⟨j, hj⟩ := Nat.exists_eq_succ_of_ne_zero hpos.ne'
  rw [hj] at hlead hlen ⊢
  rwa [topQuintet_workAt _ _ hlen]

/-- Settles O50: no marker stands in the digits of the value. -/
theorem markerIndependence : Obligations.MarkerIndependence := by
  unfold Obligations.MarkerIndependence
  intro m a v hm
  rw [encodeWith_eq_digitText hm, encodeText_eq_digitText]

/-- The symbols read the alphabet and the salt of a configuration alone (R170). -/
theorem encodeText_congr {a b : Active} (hperm : a.perm = b.perm) (hsalt : a.salt = b.salt) (hlen : a.saltLen = b.saltLen)
    (v : Value) : encodeText a v = encodeText b v := by
  simp only [encodeText_eq_digitText, digitText, Active.symbol, Active.keystream, hperm, hsalt, hlen]

/-- Settles O51. -/
theorem encodeDependsOnOperandsOnly : Obligations.EncodeDependsOnOperandsOnly := by
  unfold Obligations.EncodeDependsOnOperandsOnly
  intro s₁ s₂ hlo hhi hperm hsalt hlen
  have hvalue : s₁.value = s₂.value := by rw [State.value, State.value, hlo, hhi]
  have htext : encodeText s₁.active s₁.value = encodeText s₂.active s₂.value := by
    rw [hvalue, encodeText_congr hperm hsalt hlen]
  exact ⟨_, _, exec_encode s₁, exec_encode s₂, by simp [htext], by simp [htext]⟩

end Sys2Proof.Machine
end

-- ==== Proofs: the round trip of values ====
section
/-! PROOFS. DECODE of a text whose bytes all have a digit is the sum of its true digits times their place values
(43_decode.md R180, R190), and the digits of an encoded text sum up to the value (42_encode.md R171). -/

namespace Sys2Proof.Machine

/-! ### Sums of digits -/

/-- The value of `k` base-32 digits, most significant first (R190). -/
def digitSum (d : Nat → Digit) (k : Nat) : Nat := ∑ i ∈ Finset.range k, (d i).toNat * 32 ^ (k - 1 - i)

theorem digitSum_succ (d : Nat → Digit) (k : Nat) :
    digitSum d (k + 1) = (d 0).toNat * 32 ^ k + digitSum (fun i => d (i + 1)) k := by
  rw [digitSum, Finset.sum_range_succ', Nat.add_comm, digitSum]
  simp only [Nat.add_sub_cancel, Nat.sub_zero, Nat.sub_sub, Nat.add_comm 1]

theorem digitSum_congr {d e : Nat → Digit} {k : Nat} (h : ∀ i, i < k → d i = e i) : digitSum d k = digitSum e k :=
  Finset.sum_congr rfl fun i hi => by rw [h i (Finset.mem_range.mp hi)]

theorem decodedValue_eq_digitSum (a : Active) (text : Vector Word 4) (n : Nat) :
    decodedValue a text n = BitVec.ofNat 64 (digitSum (recoveredDigit a text) n) := rfl

/-- The last `k` digits of a value sum up to its remainder by `32^k` (R168). -/
theorem digitSum_trueDigit (v : Value) (k : Nat) : digitSum (trueDigit v k) k = v.toNat % 32 ^ k := by
  induction k with
  | zero => simp [digitSum, Nat.mod_one]
  | succ k ih =>
    rw [digitSum_succ, trueDigit_leading, BitVec.toNat_ofNat, funext (trueDigit_succ v k), ih,
      Nat.mod_pow_succ (b := 32), Nat.mul_comm (32 ^ k), Nat.add_comm]

/-! ### DECODE of digit bytes -/

theorem codedAt_eq_some_iff (a : Active) (text : Vector Word 4) (i : Nat) (d : Digit) :
    codedAt a text i = some d ↔ entryAt a.dec (textByte text i) = .digit d := by
  unfold codedAt
  cases entryAt a.dec (textByte text i) <;> simp [codedDigit]

theorem decodeLoop_of_isSome {a : Active} {text : Vector Word 4} {i : Nat} (h : (codedAt a text i).isSome = true)
    (k : Nat) (acc place : Value) :
    decodeLoop a text (k + 1) i acc place =
      decodeLoop a text k (i + 1) (acc + (recoveredDigit a text i).setWidth 64 * place) (place / 32#64) := by
  obtain ⟨d, hd⟩ := Option.isSome_iff_exists.mp h
  rw [decodeLoop, (codedAt_eq_some_iff a text i d).mp hd, recoveredDigit, hd, Option.getD_some]

/-- `PLACE` when `k` bytes are left: `32^(k-1)`, and 0 after the last one (R180). -/
def placeAt (k : Nat) : Value := BitVec.ofNat 64 (32 ^ k / 32)

theorem placeAt_succ (k : Nat) : placeAt (k + 1) = BitVec.ofNat 64 (32 ^ k) := by
  rw [placeAt, Nat.pow_succ, Nat.mul_div_cancel _ (by decide)]

theorem firstPlace_succ (k : Nat) : firstPlace (k + 1) = placeAt (k + 1) := by
  rw [placeAt_succ, pow_thirtyTwo, firstPlace, Nat.add_sub_cancel]
  apply BitVec.eq_of_toNat_eq
  simp [Nat.shiftLeft_eq]

theorem placeAt_succ_div {k : Nat} (hk : k < 13) : placeAt (k + 1) / 32#64 = placeAt k := by
  have hlt : 32 ^ k < 2 ^ 64 :=
    (Nat.pow_le_pow_right (by decide) (Nat.le_of_lt_succ hk)).trans_lt (show 32 ^ 12 < 2 ^ 64 by decide)
  apply BitVec.eq_of_toNat_eq
  rw [placeAt_succ, placeAt, BitVec.toNat_udiv, BitVec.toNat_ofNat, BitVec.toNat_ofNat, BitVec.toNat_ofNat,
    Nat.mod_eq_of_lt hlt, Nat.mod_eq_of_lt ((Nat.div_le_self _ _).trans_lt hlt)]

/-- The loop adds the digits left, each times its place value (R180, R187). -/
theorem decodeLoop_of_coded {a : Active} {text : Vector Word 4} {k i : Nat} (hk : k ≤ 13)
    (hcoded : ∀ j, j < k → (codedAt a text (i + j)).isSome = true) (acc : Value) :
    decodeLoop a text k i acc (placeAt k) =
      .ok (acc + BitVec.ofNat 64 (digitSum (fun j => recoveredDigit a text (i + j)) k)) := by
  induction k generalizing i acc with
  | zero => simp [decodeLoop, digitSum]
  | succ k ih =>
    have hfirst : (codedAt a text i).isSome = true := hcoded 0 k.succ_pos
    have hrest : ∀ j, j < k → (codedAt a text (i + 1 + j)).isSome = true := fun j hj => by
      rw [Nat.add_assoc, Nat.add_comm 1]
      exact hcoded (j + 1) (Nat.succ_lt_succ hj)
    rw [decodeLoop_of_isSome hfirst, placeAt_succ_div hk, ih (Nat.le_of_succ_le hk) hrest, placeAt_succ,
      digitSum_succ, BitVec.ofNat_add, BitVec.ofNat_mul, BitVec.ofNat_toNat, BitVec.add_assoc]
    simp only [Nat.add_zero, Nat.add_assoc, Nat.add_comm 1]

/-- A text of 1 to 13 digit bytes decodes to the sum of its digits (R180, R190). -/
theorem decodeText_of_coded {a : Active} {text : Vector Word 4} {len : Word} (hpos : 0 < len.toNat)
    (hmax : len.toNat ≤ 13) (hcoded : ∀ j, j < len.toNat → (codedAt a text j).isSome = true) :
    decodeText a len text = .ok (decodedValue a text len.toNat) := by
  have hne : len ≠ 0 := by
    rintro rfl
    exact absurd hpos (by decide)
  have hshort : ¬ 13#32 < len := by simpa [BitVec.lt_def] using hmax
  obtain ⟨k, hk⟩ := Nat.exists_eq_succ_of_ne_zero hpos.ne'
  rw [decodeText, if_neg hne, if_neg hshort, decodedValue_eq_digitSum]
  rw [hk] at hmax hcoded ⊢
  rw [firstPlace_succ, decodeLoop_of_coded hmax (by simpa using hcoded)]
  simp

theorem exec_decode_of_ok {s : State} {v : Value} (h : decodeText s.active s.inLen s.inText = .ok v) :
    exec .decode s = .next (complete (s.setResult v)) := by
  obtain ⟨f, hf, -⟩ | ⟨w, hw, hexec⟩ := execDecode_cases s
  · cases hf.symm.trans h
  · cases hw.symm.trans h
    exact hexec

theorem result_complete_setResult (s : State) (v : Value) : (complete (s.setResult v)).result = v :=
  highHalf_append_lowHalf v

/-! ### DECODE of an encoded text -/

/-- The decode table takes an output symbol back to its coded digit (R135, R137). -/
theorem entryAt_symbol {s : State} (hset : checkSetAdmitted s.params.checkSet = true) (hvalid : ConfigurationValid s)
    (d : Digit) : entryAt s.active.dec (s.active.symbol d) = .digit d := by
  have hcanon := isCanon_symbol hvalid.alphabet d
  have hglyph : glyph (s.active.symbol d) = s.active.symbol d :=
    (mem_symbolBytes_iff hcanon _).mp (by simp [symbolBytes])
  obtain ⟨hdigit, -⟩ := decodeTableEntries _ s.active hset hvalid.alphabet (s.active.symbol d)
  rw [hvalid.table, hdigit, hglyph]

section
variable {s : State} (hset : checkSetAdmitted s.params.checkSet = true) (hvalid : ConfigurationValid s) (v : Value)
include hset hvalid

theorem codedAt_encodeText {i : Nat} (hi : i < encodedLength v) :
    codedAt s.active (packText (encodeText s.active v)) i =
      some (trueDigit v (encodedLength v) i ^^^ s.active.keystream i) := by
  rw [codedAt_eq_some_iff, textByte_packText_encodeText _ _ hi, entryAt_symbol hset hvalid]

/-- The same keystream draw undoes the one of ENCODE (R144 (a)). -/
theorem recoveredDigit_encodeText {i : Nat} (hi : i < encodedLength v) :
    recoveredDigit s.active (packText (encodeText s.active v)) i = trueDigit v (encodedLength v) i := by
  obtain ⟨hinvolution, -⟩ := keystreamProperties
  rw [recoveredDigit, codedAt_encodeText hset hvalid v hi, Option.getD_some, hinvolution]

theorem decodedValue_encodeText :
    decodedValue s.active (packText (encodeText s.active v)) (encodedLength v) = v := by
  rw [decodedValue_eq_digitSum, digitSum_congr fun i hi => recoveredDigit_encodeText hset hvalid v hi, digitSum_trueDigit,
    Nat.mod_eq_of_lt (toNat_lt_pow_encodedLength v), BitVec.ofNat_toNat, BitVec.setWidth_eq]

theorem decodeText_encodeText {len : Word} (hlen : len.toNat = encodedLength v) :
    decodeText s.active len (packText (encodeText s.active v)) = .ok v := by
  have hcoded : ∀ j, j < len.toNat → (codedAt s.active (packText (encodeText s.active v)) j).isSome = true := by
    intro j hj
    rw [codedAt_encodeText hset hvalid v (hlen ▸ hj)]
    rfl
  rw [decodeText_of_coded (hlen ▸ encodedLength_pos v) (hlen ▸ encodedLength_le v) hcoded, hlen,
    decodedValue_encodeText hset hvalid]

end

/-- Settles O58: the input registers hold the text of `VALUE`, which decodes to it. -/
theorem decodeOfEncodedText : Obligations.DecodeOfEncodedText := by
  unfold Obligations.DecodeOfEncodedText
  intro s hset hvalid
  have hmax := encodedLength_le s.value
  have hlen : ((BitVec.ofNat 4 (encodeText s.active s.value).length).setWidth 32).toNat = encodedLength s.value := by
    rw [length_encodeText, BitVec.toNat_setWidth, BitVec.toNat_ofNat]
    omega
  refine ⟨_, _, exec_encode s, exec_decode_of_ok (decodeText_encodeText hset hvalid s.value hlen), ?_, rfl, rfl⟩
  exact result_complete_setResult _ _

end Sys2Proof.Machine
end

-- ==== Proofs: DECODE ====
section
/-! PROOFS. What DECODE answers for every input (43_decode.md R180 to R192): the failing checks in their order, the
closed form of a result, the bytes it reads, and the texts it accepts that ENCODE never writes. -/

namespace Sys2Proof.Machine

/-! ### The failure of a command -/

theorem exec_decode_of_error {s : State} {f : Failure} (h : decodeText s.active s.inLen s.inText = .error f) :
    exec .decode s = .next (fail s f) := by
  obtain ⟨g, hg, hexec⟩ | ⟨v, hv, -⟩ := execDecode_cases s
  · cases hg.symm.trans h
    exact hexec
  · cases hv.symm.trans h

/-- A failed DECODE changes the sequencing and the report, and clears the result (R188, R205). -/
theorem fail_of_decode {s : State} (hp : s.pend = some .decode) (f : Failure) :
    fail s f = { s with resLo := 0, resHi := 0, pend := none, status := failedFlags s, errInfo := f.info } := by
  simp [fail, hp, failedFlags, Status.completed]

theorem exec_decode_of_pending_error {s : State} (hp : s.pend = some .decode) {f : Failure}
    (h : decodeText s.active s.inLen s.inText = .error f) :
    exec .decode s = .next
      { s with resLo := 0, resHi := 0, pend := none, status := failedFlags s, errInfo := f.info } := by
  rw [exec_decode_of_error h, fail_of_decode hp]

/-! ### The checks of the length -/

theorem decodeText_empty (a : Active) (text : Vector Word 4) : decodeText a 0 text = .error { code := .emptyInput } :=
  rfl

theorem decodeText_of_long (a : Active) {len : Word} (hlong : 14 ≤ len.toNat) (text : Vector Word 4) :
    decodeText a len text = .error { code := .outOfRange } := by
  have hne : len ≠ 0 := by
    rintro rfl
    exact absurd hlong (by decide)
  have hlt : 13#32 < len := BitVec.lt_def.mpr hlong
  rw [decodeText, if_neg hne, if_pos hlt]

/-- An input of 1 to 13 bytes is decided by the loop over its bytes alone (R181). -/
theorem decodeText_of_walked (a : Active) {len : Word} (hpos : 0 < len.toNat) (hmax : len.toNat ≤ 13)
    (text : Vector Word 4) :
    decodeText a len text = decodeLoop a text len.toNat 0 0 (firstPlace len.toNat) := by
  have hne : len ≠ 0 := by
    rintro rfl
    exact absurd hpos (by decide)
  have hshort : ¬ 13#32 < len := by simpa [BitVec.lt_def] using hmax
  rw [decodeText, if_neg hne, if_neg hshort]

/-- Settles O52. -/
theorem decodeRejectsEmptyInput : Obligations.DecodeRejectsEmptyInput := by
  unfold Obligations.DecodeRejectsEmptyInput
  intro s hp hlen
  exact exec_decode_of_pending_error hp (hlen ▸ decodeText_empty s.active s.inText)

/-- Settles O53. -/
theorem decodeRejectsLongInput : Obligations.DecodeRejectsLongInput := by
  unfold Obligations.DecodeRejectsLongInput
  intro s hp hlong
  exact exec_decode_of_pending_error hp (decodeText_of_long s.active hlong s.inText)

/-! ### The first byte that is no digit -/

section
variable {a : Active} {text : Vector Word 4}

theorem decodeLoop_of_invalid {i : Nat} (h : entryAt a.dec (textByte text i) = .invalid) (k : Nat) (acc place : Value) :
    decodeLoop a text (k + 1) i acc place =
      .error { code := .invalidDigit, pos := BitVec.ofNat 8 i, byte := textByte text i } := by
  rw [decodeLoop, h]

theorem decodeLoop_of_check {i : Nat} (h : entryAt a.dec (textByte text i) = .check) (k : Nat) (acc place : Value) :
    decodeLoop a text (k + 1) i acc place =
      .error { code := .checkDigitUnsupported, pos := BitVec.ofNat 8 i, byte := textByte text i } := by
  rw [decodeLoop, h]

/-- The loop passes over the digit bytes to the byte `p` that fails, whatever it has summed up by then (R181). -/
theorem decodeLoop_of_first_failure {f : Failure} {p k i : Nat} (hle : i ≤ p) (hlt : p < i + k)
    (hcoded : ∀ j, i ≤ j → j < p → (codedAt a text j).isSome = true)
    (hfail : ∀ k acc place, decodeLoop a text (k + 1) p acc place = .error f) (acc place : Value) :
    decodeLoop a text k i acc place = .error f := by
  induction k generalizing i acc place with
  | zero => omega
  | succ k ih =>
    obtain rfl | hbefore := hle.eq_or_lt
    · exact hfail k acc place
    · rw [decodeLoop_of_isSome (hcoded i (Nat.le_refl i) hbefore)]
      exact ih hbefore (by omega) (fun j hj => hcoded j (Nat.le_of_succ_le hj)) _ _

theorem decodeText_of_first_failure {f : Failure} {len : Word} {i : Nat} (hi : i < len.toNat) (hmax : len.toNat ≤ 13)
    (hcoded : ∀ j, j < i → (codedAt a text j).isSome = true)
    (hfail : ∀ k acc place, decodeLoop a text (k + 1) i acc place = .error f) : decodeText a len text = .error f := by
  rw [decodeText_of_walked a (Nat.zero_lt_of_lt hi) hmax]
  exact decodeLoop_of_first_failure (Nat.zero_le i) (by omega) (fun j _ => hcoded j) hfail _ _

end

/-- Settles O54. -/
theorem decodeReportsFirstBadByte : Obligations.DecodeReportsFirstBadByte := by
  unfold Obligations.DecodeReportsFirstBadByte
  intro s i hp hi hmax hcoded
  refine ⟨fun hinvalid => ?_, fun hcheck => ?_⟩
  · exact exec_decode_of_pending_error hp
      (decodeText_of_first_failure hi hmax hcoded (decodeLoop_of_invalid hinvalid))
  · exact exec_decode_of_pending_error hp
      (decodeText_of_first_failure hi hmax hcoded (decodeLoop_of_check hcheck))

/-! ### The result -/

theorem exec_decode_of_coded {s : State} (hpos : 1 ≤ s.inLen.toNat) (hmax : s.inLen.toNat ≤ 13)
    (hcoded : ∀ j, j < s.inLen.toNat → (codedAt s.active s.inText j).isSome = true) :
    exec .decode s = .next (complete (s.setResult (decodedValue s.active s.inText s.inLen.toNat))) :=
  exec_decode_of_ok (decodeText_of_coded hpos hmax hcoded)

/-- A successful DECODE changes the result, the sequencing and the report (R188, R204). -/
theorem complete_setResult (s : State) (v : Value) :
    complete (s.setResult v) =
      { s with
        resLo := v.extractLsb' 0 32, resHi := v.extractLsb' 32 32
        pend := none, status := doneFlags s, errInfo := { code := 0, pos := 0, byte := 0 } } := rfl

/-- Settles O55. -/
theorem decodeWritesValue : Obligations.DecodeWritesValue := by
  unfold Obligations.DecodeWritesValue
  intro s hpos hmax hcoded
  rw [exec_decode_of_coded hpos hmax hcoded, complete_setResult]

/-! ### The bytes DECODE reads -/

theorem keystream_congr {a b : Active} (hsalt : a.salt = b.salt) (hlen : a.saltLen = b.saltLen) :
    a.keystream = b.keystream := by
  funext j
  rw [Active.keystream, Active.keystream, hsalt, hlen]

/-- The loop reads the `k` bytes left, the decode table and the keystream. -/
theorem decodeLoop_congr {a b : Active} (hdec : a.dec = b.dec) (hkey : a.keystream = b.keystream)
    {x y : Vector Word 4} {k i : Nat} (hbytes : ∀ j, i ≤ j → j < i + k → textByte x j = textByte y j)
    (acc place : Value) : decodeLoop a x k i acc place = decodeLoop b y k i acc place := by
  induction k generalizing i acc place with
  | zero => rfl
  | succ k ih =>
    have hrest : ∀ j, i + 1 ≤ j → j < i + 1 + k → textByte x j = textByte y j := fun j hj hk =>
      hbytes j (by omega) (by omega)
    rw [decodeLoop, decodeLoop, hdec, hkey, hbytes i (Nat.le_refl i) (by omega)]
    cases entryAt b.dec (textByte y i) with
    | digit d => exact ih hrest _ _
    | invalid | check => rfl

/-- Settles O56: the length checks read no byte, and the loop reads those below the length, which is then at most 13. -/
theorem decodeReadsInputBytesOnly : Obligations.DecodeReadsInputBytesOnly := by
  unfold Obligations.DecodeReadsInputBytesOnly
  intro a b len x y hdec hsalt hsaltLen hbytes
  obtain hzero | hlong | ⟨hpos, hmax⟩ : len = 0 ∨ 14 ≤ len.toNat ∨ 0 < len.toNat ∧ len.toNat ≤ 13 := by
    bv_omega
  · rw [hzero, decodeText_empty, decodeText_empty]
  · rw [decodeText_of_long a hlong, decodeText_of_long b hlong]
  · rw [decodeText_of_walked a hpos hmax, decodeText_of_walked b hpos hmax]
    exact decodeLoop_congr hdec (keystream_congr hsalt hsaltLen) (fun j _ hj => hbytes j (by omega) (by omega)) _ _

/-! ### Texts that ENCODE never writes -/

/-- Leading digits 0 leave the value that of the rest (R191 (a)). -/
theorem digitSum_of_leading_zeros {d : Nat → Digit} {z : Nat} (hzero : ∀ i, i < z → d i = 0) (k : Nat) :
    digitSum d (z + k) = digitSum (fun i => d (z + i)) k := by
  induction z generalizing d with
  | zero => simp only [Nat.zero_add]
  | succ z ih =>
    rw [Nat.succ_add, digitSum_succ, hzero 0 z.succ_pos, ih fun i hi => hzero (i + 1) (Nat.succ_lt_succ hi)]
    simp [Nat.add_right_comm]

/-- `k` digits stay below `32^k`. -/
theorem digitSum_lt (d : Nat → Digit) (k : Nat) : digitSum d k < 32 ^ k := by
  induction k generalizing d with
  | zero => simp [digitSum]
  | succ k ih =>
    have hrest := ih fun i => d (i + 1)
    have hfirst : (d 0).toNat * 32 ^ k ≤ 31 * 32 ^ k := Nat.mul_le_mul_right _ (Nat.le_of_lt_succ (d 0).isLt)
    rw [digitSum_succ, Nat.pow_succ]
    omega

/-- At most 12 digits do not wrap (R191). -/
theorem digitSum_lt_of_le_twelve (d : Nat → Digit) {k : Nat} (hk : k ≤ 12) : digitSum d k < 2 ^ 60 :=
  (digitSum_lt d k).trans_le (pow_thirtyTwo k ▸ Nat.pow_le_pow_right (by decide) (by omega))

/-- Of the first of 13 digits, the fifth bit is lost to the wrapping (R191 (b)). -/
theorem ofNat_digitSum_thirteen (d : Nat → Digit) :
    BitVec.ofNat 64 (digitSum d 13) =
      BitVec.ofNat 64 ((d 0).toNat % 16 * 2 ^ 60 + digitSum (fun i => d (i + 1)) 12) := by
  rw [digitSum_succ]
  apply BitVec.eq_of_toNat_eq
  rw [BitVec.toNat_ofNat, BitVec.toNat_ofNat]
  omega

/-- Settles O57. -/
theorem decodeAcceptsNonMinimal : Obligations.DecodeAcceptsNonMinimal := by
  unfold Obligations.DecodeAcceptsNonMinimal
  intro s hpos hmax hcoded
  refine ⟨_, exec_decode_of_coded hpos hmax hcoded, rfl, rfl, rfl, ?_⟩
  rw [result_complete_setResult, decodedValue_eq_digitSum]
  refine ⟨fun z hz hzero => ?_, fun hthirteen => ?_, fun hshort => ?_⟩
  · have hrest := digitSum_of_leading_zeros hzero (s.inLen.toNat - z)
    rw [Nat.add_sub_cancel' hz.le] at hrest
    rw [hrest]
    rfl
  · rw [hthirteen, ofNat_digitSum_thirteen]
    rfl
  · have hlt := digitSum_lt_of_le_twelve (recoveredDigit s.active s.inText) hshort
    rw [BitVec.toNat_ofNat, Nat.mod_eq_of_lt (hlt.trans (by decide))]
    exact ⟨hlt, rfl⟩

end Sys2Proof.Machine
end

-- ==== Proofs: completions and the interrupt output ====
section
/-! PROOFS. How a completion reports and when the block interrupts (60_exceptions.md): a step always answers (R206, R209), the
completion of a pending command agrees with its error report (R204, R205), and `irq` follows `DONE` and its enable (R210,
R211). -/

namespace Sys2Proof.Machine

/-- Settles O8. -/
theorem everyStepAnswersNext : Obligations.EveryStepAnswersNext := by
  unfold Obligations.EveryStepAnswersNext
  exact step_answers

/-! ### What a completion leaves -/

theorem complete_err_iff (s : State) : (complete s).status.err = true ↔ (complete s).errInfo.code ≠ 0 := by simp

/-- An error completion never reports code 0 (R200, R205). -/
theorem fail_err_iff (s : State) (f : Failure) : (fail s f).status.err = true ↔ (fail s f).errInfo.code ≠ 0 :=
  iff_of_true rfl f.code.bits_ne_zero

/-- `ERR` and `ERRINFO` agree after the completion of a pending command, whatever they were before (R204, R205). -/
theorem EngineEffect.err_iff_of_pending {s t : State} (h : EngineEffect s t) (hp : s.pend.isSome = true) :
    t.status.err = true ↔ t.errInfo.code ≠ 0 := by
  cases h with
  | idle hnone => simp [hnone] at hp
  | encoded | decoded | configured => exact complete_err_iff _
  | decodeFailed | configureFailed | illegalFailed => exact fail_err_iff s _

theorem EngineEffect.drop_eq {s t : State} (h : EngineEffect s t) : t.status.drop = s.status.drop := by
  cases h <;> rfl

/-- The engine writes no register of the host (R102). -/
theorem EngineEffect.sameHostRegisters {s t : State} (h : EngineEffect s t) : SameHostRegisters s t := by
  cases h <;> exact ⟨rfl, rfl, rfl, rfl, rfl, rfl, rfl, rfl⟩

/-- Settles O10, by the effects that the engine's turn can have. -/
theorem completionReports : Obligations.CompletionReports := by
  unfold Obligations.CompletionReports
  intro s hp
  obtain ⟨t, ht⟩ := engineTurn_answers s
  have heffect := engineTurn_engineEffect ht
  obtain ⟨hbusy, hdone⟩ := heffect.status_of_pending hp
  exact ⟨t, ht, heffect.pend_eq_none, hbusy, hdone, heffect.drop_eq, heffect.err_iff_of_pending hp,
    heffect.sameHostRegisters⟩

/-! ### The interrupt output -/

theorem State.irq_eq_true_iff (s : State) : s.irq = true ↔ s.status.done = true ∧ s.doneIe = true := by
  simp [State.irq]

/-- The port's answer does not show in the interrupt output. -/
@[simp] theorem State.irq_respond (s : State) (a : Response) : (s.respond a).irq = s.irq := rfl

theorem State.irq_of_done {s : State} (h : s.status.done = true) : s.irq = s.doneIe := by
  simp [State.irq, h]

theorem State.irq_of_not_done {s : State} (h : s.status.done = false) : s.irq = false := by
  simp [State.irq, h]

/-- A 1 written to `STATUS.DONE` clears it (R104). -/
theorem writeReg_status_done (s : State) {data : Word} (h : data.getLsbD 1 = true) :
    (writeReg s .status data).status.done = false := by
  simp [writeReg, h]

/-- Every word but that of `NOP` clears `DONE` when it is accepted (R105). -/
theorem accept_done_of_ne_zero (s : State) {w : Word} (h : w ≠ 0) : (accept s w).status.done = false := by
  simp [accept_of_ne_zero s h]

/-- Settles O30: `irq` is a function of `DONE` and `DONE_IE`, so each clause says what becomes of these two. -/
theorem interruptOutput : Obligations.InterruptOutput := by
  unfold Obligations.InterruptOutput
  refine ⟨State.irq_eq_true_iff, ?inten, ?status, ?accepted, ?nop, ?completion⟩
  case inten =>
    intro s d
    exact ⟨_, exec_wr_of_row s inten_mem_regTable d, rfl, rfl⟩
  case status =>
    intro s d hclear
    have hdone := writeReg_status_done s hclear
    exact ⟨_, exec_wr_of_row s status_mem_regTable d, State.irq_of_not_done hdone, hdone⟩
  case accepted =>
    intro s w hp hw
    have hdone := accept_done_of_ne_zero s hw
    exact ⟨_, exec_wr_ctrl_of_idle hp w, State.irq_of_not_done hdone, hdone⟩
  case nop =>
    intro s hp
    exact ⟨_, exec_wr_ctrl_of_idle hp 0, by rw [State.irq_respond, accept_zero]⟩
  case completion =>
    intro s hp
    obtain ⟨t, ht⟩ := engineTurn_answers s
    have heffect := engineTurn_engineEffect ht
    obtain ⟨-, hdone⟩ := heffect.status_of_pending hp
    exact ⟨t, ht, hdone, (State.irq_of_done hdone).trans heffect.sameHostRegisters.doneIe⟩

end Sys2Proof.Machine
end

-- ==== Proofs: reset ====
section
/-! PROOFS. The reset state (70_reset_and_hazards.md R230, R231), the event that reaches it, and CONFIGURE on a block whose
staging registers spell its active configuration, as they do after reset (R232). -/

namespace Sys2Proof.Machine

/-! ### The reset event and the reset values -/

/-- Settles O13. -/
theorem resetEventGivesResetState : Obligations.ResetEventGivesResetState := by
  unfold Obligations.ResetEventGivesResetState
  intro s rest hs
  rw [step_of_schedule_cons hs, runEvent, State.resetBlock]

/-- A served read of a register returns the value in its row and no error (R100). -/
theorem busRead_of_mem_registerReads (s : State) {row : BitVec 8 × Word} (h : row ∈ registerReads s) :
    busRead s row.1 .four = (row.2, false) := by
  obtain ⟨⟨off, r⟩, hrow, rfl⟩ := List.mem_map.mp h
  simp [busRead, busError_of_aligned (aligned_of_mem_regTable _ hrow), regAt_of_mem_regTable _ hrow]

/-- `STATUS` reads 0 while no flag is set (R25). -/
theorem Status.word_of_clear : Status.word { busy := false, done := false, err := false, drop := false } = 0 := by decide

/-- `ERRINFO` reads 0 while it holds no report (R27). -/
theorem ErrInfo.word_of_clear : ErrInfo.word { code := 0#8, pos := 0#8, byte := 0#8 } = 0 := by decide

/-- Settles O12: the values of the statement are the `registerReads` of the reset state, row for row. -/
theorem resetValues : Obligations.ResetValues := by
  unfold Obligations.ResetValues
  intro p
  refine ⟨fun row hrow => ?registers, rfl, rfl, rfl⟩
  case registers =>
    have hread : row ∈ registerReads (State.resetWith p) := by
      simpa [registerReads, regTable, readReg, State.resetWith, idWord, flagBit, Status.word_of_clear,
        ErrInfo.word_of_clear] using hrow
    exact busRead_of_mem_registerReads _ hread

/-! ### CONFIGURE with the active configuration staged -/

@[simp] theorem getElem_foldedAlphabet (perm : Vector Word 8) {i : Nat} (hi : i < 32) :
    (foldedAlphabet perm)[i] = upper (textByte perm i) := by
  simp [foldedAlphabet, foldedByte]

@[simp] theorem getElem_stagedSalt (salt : Vector Word 4) {i : Nat} (hi : i < 13) :
    (stagedSalt salt)[i] = textByte salt i := by
  simp [stagedSalt]

/-- Every staging that folds to an alphabet passes the check, the converse of `isAlphabet_foldedAlphabet` (R139). -/
theorem firstBadIndex_eq_none_of_isAlphabet {perm : Vector Word 8} (h : isAlphabet (foldedAlphabet perm) = true) :
    firstBadIndex perm = none := by
  refine firstBadIndex_eq_none_of_good (fun i hi => ?canonical) (fun i j hij hj heq => ?distinct)
  case canonical =>
    rw [← getElem_foldedAlphabet perm hi]
    exact canonText_of_isAlphabet h _ (Vector.mem_toList_iff.mpr (Vector.getElem_mem hi))
  case distinct =>
    have hsame : (⟨i, hij.trans hj⟩ : Fin 32) = ⟨j, hj⟩ :=
      getElem_injective_of_isAlphabet h (by simpa using heq)
    exact absurd (Fin.mk.inj hsame) hij.ne

/-- A valid configuration that is staged as it is active passes the check of CONFIGURE (R48, R138). -/
theorem configureFailure_of_staged_eq_active {s : State} (hvalid : ConfigurationValid s)
    (hstaged : stagedConfiguration s = s.active) : configureFailure s = none := by
  obtain ⟨halphabet, -, hsalt⟩ := hvalid
  rw [← hstaged, stagedConfiguration_perm] at halphabet
  rw [← hstaged, stagedConfiguration_saltLen] at hsalt
  exact (configureFailure_eq_none_iff s).mpr ⟨firstBadIndex_eq_none_of_isAlphabet halphabet, hsalt⟩

/-- Installing what is already active leaves only the completion's report. -/
theorem exec_configure_of_staged_eq_active {s : State} (hvalid : ConfigurationValid s)
    (hstaged : stagedConfiguration s = s.active) : exec .configure s = .next (complete s) := by
  rw [exec_configure_of_success (configureFailure_of_staged_eq_active hvalid hstaged), hstaged]
  rfl

/-- Acceptance keeps the staging and the active configuration, so the completion still finds them equal (R105). -/
theorem engineTurn_of_staged_eq_active {s : State} (hvalid : ConfigurationValid s)
    (hstaged : stagedConfiguration s = s.active) (r : Response) :
    engineTurn ((s.start .configure).respond r) = .next (complete ((s.start .configure).respond r)) := by
  have hsame : stagedConfiguration ((s.start .configure).respond r) = stagedConfiguration s :=
    stagedConfiguration_congr rfl rfl rfl rfl
  exact exec_configure_of_staged_eq_active (hvalid.of_eq rfl rfl) (hsame.trans hstaged)

/-! ### The staging registers after reset -/

/-- `PERM0` to `PERM7` spell the canonical alphabet after reset (R232). -/
theorem textByte_resetWith_perm (p : Params) : ∀ i : Fin 32, textByte (State.resetWith p).perm i.val = canon[i] := by
  rw [show (State.resetWith p).perm = State.reset.perm from rfl]
  decide

/-- `SALT0` to `SALT3` hold the all-zero salt after reset (R232). -/
theorem textByte_resetWith_salt (p : Params) :
    ∀ i : Fin 13, textByte (State.resetWith p).salt i.val = (State.resetWith p).active.salt[i] := by
  rw [show (State.resetWith p).salt = State.reset.salt from rfl,
    show (State.resetWith p).active.salt = State.reset.active.salt from rfl]
  decide

/-- The canonical alphabet is its own folded form (R10, R130). -/
theorem upper_canon : ∀ i : Fin 32, upper canon[i] = canon[i] := by decide

theorem foldedAlphabet_resetWith (p : Params) : foldedAlphabet (State.resetWith p).perm = canon :=
  Vector.ext fun i hi => by
    calc (foldedAlphabet (State.resetWith p).perm)[i]
        = upper (textByte (State.resetWith p).perm i) := getElem_foldedAlphabet _ hi
      _ = upper canon[i] := congrArg upper (textByte_resetWith_perm p ⟨i, hi⟩)
      _ = canon[i] := upper_canon ⟨i, hi⟩

theorem stagedSalt_resetWith (p : Params) : stagedSalt (State.resetWith p).salt = (State.resetWith p).active.salt :=
  Vector.ext fun i hi => (getElem_stagedSalt _ hi).trans (textByte_resetWith_salt p ⟨i, hi⟩)

/-- After reset the staging registers hold the active configuration (R232). -/
theorem stagedConfiguration_resetWith (p : Params) :
    stagedConfiguration (State.resetWith p) = (State.resetWith p).active := by
  rw [stagedConfiguration, foldedAlphabet_resetWith, stagedSalt_resetWith]
  rfl

/-- Settles O45: the word 3 starts CONFIGURE, whose completion finds staged what is active. -/
theorem configureAfterResetReinstalls : Obligations.ConfigureAfterResetReinstalls := by
  unfold Obligations.ConfigureAfterResetReinstalls
  intro p
  have haccepted := exec_wr_ctrl_of_idle (s := State.resetWith p) rfl 0x3
  have hcompleted := engineTurn_of_staged_eq_active (resetWith_configurationValid p) (stagedConfiguration_resetWith p)
    (.write false)
  exact ⟨textByte_resetWith_perm p, textByte_resetWith_salt p, rfl, _, _, haccepted, rfl, hcompleted, rfl, rfl, rfl, rfl⟩

end Sys2Proof.Machine
end
